-- ==== Sys2Proof/Word.lean ====
section
/-! DEFINITION. The word types of the fabric (00_scope.md R9: every value is an unsigned bit vector). -/

namespace Sys2Proof

/-- One byte: the width of the register bus and of a byte lane (R6: CSR_DATA_WIDTH, GRANULARITY). -/
abbrev Byte := BitVec 8

/-- One word of the wide bus (R6: DATA_WIDTH = 32). -/
abbrev Word := BitVec 32

/-- A word address of the wide bus (R91: `adr` has 30 bits). -/
abbrev Adr := BitVec 30

/-- A word index into the memory array, MEM_AW bits of it in use (R24); MEM_AW is at most 30. -/
abbrev Index := BitVec 30

/-- A narrow byte address, CSR_AW bits of it in use (R96); CSR_AW is at most 32. -/
abbrev NarrowAdr := BitVec 32

/-- A receive-FIFO entry: parity, frame, overflow, data (R36, R98). -/
abbrev RxEntry := BitVec 11

/-- A transmit-FIFO entry (R37, R98). -/
abbrev TxEntry := BitVec 8

end Sys2Proof
end

