-- ==== Sys2Proof/Config.lean ====
section
/-! DEFINITION. The configuration of one fabric (00_scope.md R6), the construction checks (R7), the reference
configuration REF, and the free values: constants without a body, of which nothing can be proved. -/

namespace Sys2Proof

/-- FIFO_FLAG_MODE of R6: whether the FIFO flags are exact (43_uart_fifo.md R225) or may lag (R226). -/
inductive FifoMode where
  | exactFlags
  | laggingFlags
deriving DecidableEq, Repr

/-- The record of R6. ADR_WIDTH = 30, NMASTER = 2, CSR_DATA_WIDTH = 8, RX_FIFO_WIDTH = 11 and TX_FIFO_WIDTH = 8 are
fixed by the types (R91, R280, R96, R98); MEM_WORDS, MEM_AW, CSR_AW and NSEL are derived below. -/
structure Config where
  dataWidth : Nat
  granularity : Nat
  memBase : Nat
  memSize : Nat
  memWritable : Bool
  /-- MEM_INIT: the words of the array from index 0 upward; a list shorter than MEM_WORDS stands for the array whose
  further words are 0 (log entry 5). -/
  memInit : List Word
  csrBase : Nat
  csrSize : Nat
  offCtrl : Nat
  offRxInfo : Nat
  offRxData : Nat
  offTxInfo : Nat
  offTxData : Nat
  divisorWidth : Nat
  divisorReset : Word
  rxDepth : Nat
  txDepth : Nat
  fifoMode : FifoMode
deriving DecidableEq, Repr

/-- NSEL of R6: byte lanes of a word. -/
abbrev Config.nSel (c : Config) : Nat := c.dataWidth / c.granularity

/-- MEM_WORDS of R6 and R174. -/
abbrev Config.memWords (c : Config) : Nat := c.memSize / 4

/-- MEM_AW of R6: the width of the latched address. -/
abbrev Config.memAW (c : Config) : Nat := Nat.log2 c.memWords

/-- CSR_AW of R6: the width of the narrow address. -/
abbrev Config.csrAW (c : Config) : Nat := Nat.log2 c.csrSize

/-- The byte length of CTRL: ceil(DIVISOR_WIDTH / 8) (R35). -/
abbrev Config.ctrlBytes (c : Config) : Nat := (c.divisorWidth + 7) / 8

/-- The five registers as (offset, byte length) (R35). -/
def Config.registers (c : Config) : List (Nat × Nat) :=
  [(c.offCtrl, c.ctrlBytes), (c.offRxInfo, 1), (c.offRxData, 1), (c.offTxInfo, 1), (c.offTxData, 1)]

/-- A size is a power of two (R7). -/
def isPowerOfTwo (n : Nat) : Bool := 2 ^ Nat.log2 n == n

/-- Two (start, length) ranges share no address (R7). -/
def disjointRanges (a b : Nat × Nat) : Bool := decide (a.1 + a.2 ≤ b.1) || decide (b.1 + b.2 ≤ a.1)

/-- No two ranges of a list share an address. -/
def pairwiseDisjoint : List (Nat × Nat) → Bool
  | [] => true
  | r :: rs => rs.all (disjointRanges r) && pairwiseDisjoint rs

/-- The construction checks of R7, one by one, with the bounds that R6 puts into the meaning of a parameter (log entry 4). -/
def Config.checks (c : Config) : List Bool :=
  [ decide (c.dataWidth = 32), decide (c.granularity = 8),
    isPowerOfTwo c.memSize, isPowerOfTwo c.csrSize,
    decide (4 ≤ c.memSize), decide (32 ≤ c.csrSize),
    decide (c.memBase % c.memSize = 0), decide (c.csrBase % c.csrSize = 0),
    decide (c.memBase + c.memSize ≤ 2 ^ 32), decide (c.csrBase + c.csrSize ≤ 2 ^ 32),
    disjointRanges (c.memBase, c.memSize) (c.csrBase, c.csrSize),
    c.registers.all (fun r => decide (r.1 + r.2 ≤ c.csrSize)), pairwiseDisjoint c.registers,
    decide (1 ≤ c.divisorWidth), decide (c.divisorWidth ≤ 32),
    decide (1 ≤ c.rxDepth), decide (1 ≤ c.txDepth),
    decide (c.memInit.length ≤ c.memWords), decide (c.divisorReset.toNat < 2 ^ c.divisorWidth) ]

/-- A fabric is built from a configuration only if every construction check holds (R7). -/
def Config.legal (c : Config) : Bool := c.checks.all id

/-- REF, the reference configuration of R6. -/
def Config.ref : Config where
  dataWidth := 32
  granularity := 8
  memBase := 0x00000000
  memSize := 0x1000
  memWritable := true
  memInit := []
  csrBase := 0x80000000
  csrSize := 0x20
  offCtrl := 0x00
  offRxInfo := 0x04
  offRxData := 0x08
  offTxInfo := 0x0C
  offTxData := 0x10
  divisorWidth := 16
  divisorReset := 0
  rxDepth := 4
  txDepth := 4
  fifoMode := .exactFlags

/-- draw(11) of R241: what `rx_fifo` shows in clock cycle `t` while it is not ready to read; its bits 10:8 are the draw(3)
of RX_INFO (R31, R235, U1), its bits 7:0 the draw(8) of RX_DATA (R32, R232, U2). A free value: log entry 6. -/
opaque Free.rxEntry : Nat → RxEntry

/-- draw(8) of R241: what `tx_fifo` shows in clock cycle `t` while it is not ready to read: `tx_data` (R240, R246, R302, U3).
A free value: log entry 6. -/
opaque Free.txEntry : Nat → TxEntry

/-- The choices behind `choose` of R226 (U6), four for each clock cycle. A free value: log entry 7. -/
opaque Free.choice : Nat → Nat

/-- For how many clock cycles hidden entries, or slots, may stay hidden before one of them must become visible: some finite
number each time (the fairness of R226). A free value: log entry 7. -/
opaque Free.patience : Nat → Nat

end Sys2Proof
end

