-- ==== Sys2Proof/Syntax.lean ====
section
/-! DEFINITION. The syntax: the ports, a request of the wide bus, a row of a script, and the operations.
`Instr` has one constructor for each row of spec/opcode_table.json; its arguments are the operands the row or its rule
names (log entry 12 says which bits of a key are not kept). -/

namespace Sys2Proof

/-- The two master ports (45_arbiter.md R280): m0 the instruction port, m1 the data port (10_state.md R21). -/
inductive Master where
  | m0
  | m1
deriving DecidableEq, Repr

/-- The other of the two ports. -/
def Master.other : Master → Master
  | .m0 => .m1
  | .m1 => .m0

/-- The two FIFOs (43_uart_fifo.md R220). -/
inductive FifoId where
  | rx
  | tx
deriving DecidableEq, Repr

/-- The master-to-slave half of the wide bus (30_encoding.md R91). -/
structure Request where
  cyc : Bool := false
  stb : Bool := false
  we : Bool := false
  cti : BitVec 3 := 0
  bte : BitVec 2 := 0
  adr : Adr := 0
  sel : BitVec 4 := 0
  datW : Word := 0
deriving DecidableEq, Repr

/-- One port's bracket of a script row: CW (R93), adr, sel, dat_w (R108). -/
structure Bracket where
  cw : BitVec 8 := 0
  adr : Adr := 0
  sel : BitVec 4 := 0
  datW : Word := 0
deriving DecidableEq, Repr

/-- The transceiver's inputs of one clock cycle (10_state.md R41). -/
structure Xcvr where
  rxRdy : Bool := false
  rxData : Byte := 0
  rxOvf : Bool := false
  rxFerr : Bool := false
  rxPerr : Bool := false
  txRdy : Bool := false
deriving DecidableEq, Repr

/-- One row of a script: every input of one clock cycle (10_state.md R41, 30_encoding.md R108). -/
structure Row where
  m0 : Bracket := {}
  m1 : Bracket := {}
  x : Xcvr := {}
deriving DecidableEq, Repr

/-- A port's bracket of a row. -/
def Row.bracket (r : Row) : Master → Bracket
  | .m0 => r.m0
  | .m1 => r.m1

/-- The operations of the ten formats (30_encoding.md R90, R97, R103). -/
inductive Instr where
  /-- WB.IDLE (R125); `adr` reaches the Decoder's selects (R262, R267) and the narrow bus's lines (R192). -/
  | wbIdle (m : Master) (adr : Adr)
  /-- WB.WAIT (R126); `adr` as in WB.IDLE. -/
  | wbWait (m : Master) (adr : Adr)
  /-- WB.RD.CLASSIC (R127). -/
  | wbRdClassic (m : Master) (adr : Adr) (sel : BitVec 4)
  /-- WB.WR.CLASSIC (R128). -/
  | wbWrClassic (m : Master) (adr : Adr) (sel : BitVec 4) (datW : Word)
  /-- WB.RD.CONST (R129). -/
  | wbRdConst (m : Master) (adr : Adr) (sel : BitVec 4)
  /-- WB.WR.CONST (R130). -/
  | wbWrConst (m : Master) (adr : Adr) (sel : BitVec 4) (datW : Word)
  /-- WB.RD.INCR.LINEAR (R131). -/
  | wbRdIncrLinear (m : Master) (adr : Adr) (sel : BitVec 4)
  /-- WB.WR.INCR.LINEAR (R135). -/
  | wbWrIncrLinear (m : Master) (adr : Adr) (sel : BitVec 4) (datW : Word)
  /-- WB.RD.INCR.WRAP4 (R132). -/
  | wbRdIncrWrap4 (m : Master) (adr : Adr) (sel : BitVec 4)
  /-- WB.WR.INCR.WRAP4 (R136). -/
  | wbWrIncrWrap4 (m : Master) (adr : Adr) (sel : BitVec 4) (datW : Word)
  /-- WB.RD.INCR.WRAP8 (R133). -/
  | wbRdIncrWrap8 (m : Master) (adr : Adr) (sel : BitVec 4)
  /-- WB.WR.INCR.WRAP8 (R137). -/
  | wbWrIncrWrap8 (m : Master) (adr : Adr) (sel : BitVec 4) (datW : Word)
  /-- WB.RD.INCR.WRAP16 (R134). -/
  | wbRdIncrWrap16 (m : Master) (adr : Adr) (sel : BitVec 4)
  /-- WB.WR.INCR.WRAP16 (R138). -/
  | wbWrIncrWrap16 (m : Master) (adr : Adr) (sel : BitVec 4) (datW : Word)
  /-- WB.RD.RSVD3 (R139). -/
  | wbRdRsvd3 (m : Master) (adr : Adr) (sel : BitVec 4)
  /-- WB.WR.RSVD3 (R140). -/
  | wbWrRsvd3 (m : Master) (adr : Adr) (sel : BitVec 4) (datW : Word)
  /-- WB.RD.RSVD45 (R141). -/
  | wbRdRsvd45 (m : Master) (adr : Adr) (sel : BitVec 4)
  /-- WB.WR.RSVD45 (R142). -/
  | wbWrRsvd45 (m : Master) (adr : Adr) (sel : BitVec 4) (datW : Word)
  /-- WB.RD.RSVD6 (R143). -/
  | wbRdRsvd6 (m : Master) (adr : Adr) (sel : BitVec 4)
  /-- WB.WR.RSVD6 (R144). -/
  | wbWrRsvd6 (m : Master) (adr : Adr) (sel : BitVec 4) (datW : Word)
  /-- WB.RD.EOB (R145). -/
  | wbRdEob (m : Master) (adr : Adr) (sel : BitVec 4)
  /-- WB.WR.EOB (R146). -/
  | wbWrEob (m : Master) (adr : Adr) (sel : BitVec 4) (datW : Word)
  /-- MC.IDLE (R164). -/
  | mcIdle
  /-- MC.LATCH (R161). -/
  | mcLatch (adr : Adr)
  /-- MC.RELEASE (R163). -/
  | mcRelease
  /-- MC.BEAT (R162). -/
  | mcBeat (we : Bool) (sel : BitVec 4) (datW : Word) (cti : BitVec 3) (bte : BitVec 2)
  /-- ADV.LINEAR (R167). -/
  | advLinear
  /-- ADV.WRAP4 (R168). -/
  | advWrap4
  /-- ADV.WRAP8 (R169). -/
  | advWrap8
  /-- ADV.WRAP16 (R171). -/
  | advWrap16
  /-- BR.IDLE (R193). -/
  | brIdle
  /-- BR.LANE0 (R194). -/
  | brLane0 (adr : Adr) (sel : BitVec 4) (we : Bool) (datW : Word)
  /-- BR.LANE1 (R195). -/
  | brLane1 (adr : Adr) (sel : BitVec 4) (we : Bool) (datW : Word)
  /-- BR.LANE2 (R196). -/
  | brLane2 (adr : Adr) (sel : BitVec 4) (we : Bool) (datW : Word)
  /-- BR.LANE3 (R197). -/
  | brLane3 (adr : Adr) (sel : BitVec 4) (we : Bool) (datW : Word)
  /-- BR.COLLECT (R198). -/
  | brCollect
  /-- BR.ACK (R199). -/
  | brAck
  /-- CSR.NOP (R203). -/
  | csrNop
  /-- CSR.RD (R201). -/
  | csrRd (addr : NarrowAdr)
  /-- CSR.WR (R202). -/
  | csrWr (addr : NarrowAdr) (data : Byte)
  /-- CTRL.RD of byte `j` (R207). -/
  | ctrlRd (j : BitVec 2)
  /-- CTRL.WR of byte `j` (R208). -/
  | ctrlWr (j : BitVec 2) (data : Byte)
  /-- RX_INFO.RD (R235). -/
  | rxInfoRd
  /-- RX_DATA.RD (R232). -/
  | rxDataRd
  /-- TX_INFO.RD (R236). -/
  | txInfoRd
  /-- TX_DATA.WR (R233). -/
  | txDataWr (data : Byte)
  /-- REG.RD.NONE (R206). -/
  | regRdNone (addr : NarrowAdr)
  /-- REG.WR.NONE (R213). -/
  | regWrNone (addr : NarrowAdr) (data : Byte)
  /-- FIFO.NOP (R227). -/
  | fifoNop (f : FifoId)
  /-- FIFO.PUSH (R228). -/
  | fifoPush (f : FifoId) (wData : RxEntry)
  /-- FIFO.POP (R229). -/
  | fifoPop (f : FifoId)
  /-- FIFO.PUSHPOP (R234). -/
  | fifoPushPop (f : FifoId) (wData : RxEntry)
  /-- RX.IDLE (R238). -/
  | rxIdle
  /-- RX.ACCEPT (R230). -/
  | rxAccept (data : Byte) (ovf ferr perr : Bool)
  /-- RX.REFUSE (R237). -/
  | rxRefuse
  /-- TX.IDLE (R240); `rRdy` is XT[0], which the key carries and `tx_data` depends on. -/
  | txIdle (rRdy : Bool)
  /-- TX.PULL (R231). -/
  | txPull
  /-- TX.EMPTY (R246). -/
  | txEmpty
  /-- DEC.MEM (R263). -/
  | decMem (d : Request)
  /-- DEC.CSR (R264). -/
  | decCsr (d : Request)
  /-- DEC.MISS (R265). -/
  | decMiss (d : Request)
  /-- ARB.HOLD0 (R284). -/
  | arbHold0
  /-- ARB.HOLD1 (R285). -/
  | arbHold1
  /-- ARB.SWITCH01 (R286). -/
  | arbSwitch01
  /-- ARB.SWITCH10 (R287). -/
  | arbSwitch10
  /-- ARB.PARK0 (R288). -/
  | arbPark0
  /-- ARB.PARK1 (R289). -/
  | arbPark1
deriving DecidableEq, Repr

end Sys2Proof
end

