-- ==== Sys2Proof/Machine/AddressMap.lean ====
section
/-! DEFINITION. The two address maps, as functions of the configuration: the Decoder's ranges of the system address
space (20_memory.md R70, R71; 44_decoder.md R262) and the register map of the narrow address space (10_state.md R35). -/

namespace Sys2Proof.Machine

/-- `sel_mem` of R262: the upper bits of the word address equal those of MEM_BASE. -/
def selMem (c : Config) (adr : Adr) : Bool :=
  adr.toNat >>> c.memAW == c.memBase >>> (c.memAW + 2)

/-- `sel_csr` of R262. -/
def selCsr (c : Config) (adr : Adr) : Bool :=
  adr.toNat >>> (c.csrAW - 2) == c.csrBase >>> c.csrAW

/-- `miss` of R262. -/
def decodeMiss (c : Config) (adr : Adr) : Bool := !selMem c adr && !selCsr c adr

/-- The byte of CTRL that stands at a narrow address, if one does (R103, R207): byte `j` at OFF_CTRL + j. -/
def ctrlByteAt (c : Config) (addr : NarrowAdr) : Option (BitVec 2) :=
  if c.offCtrl ≤ addr.toNat ∧ addr.toNat < c.offCtrl + c.ctrlBytes then
    some (BitVec.ofNat 2 (addr.toNat - c.offCtrl))
  else none

/-- The narrow address lies inside the region (R39: 0 .. CSR_SIZE - 1). -/
def inRegion (c : Config) (addr : NarrowAdr) : Bool := decide (addr.toNat < c.csrSize)

/-- The byte at this narrow address can be read (R35: CTRL, RX_INFO, RX_DATA, TX_INFO). -/
def readableByte (c : Config) (addr : NarrowAdr) : Bool :=
  (ctrlByteAt c addr).isSome || decide (addr.toNat = c.offRxInfo) || decide (addr.toNat = c.offRxData)
  || decide (addr.toNat = c.offTxInfo)

/-- The byte at this narrow address can be written (R35: CTRL, TX_DATA). -/
def writableByte (c : Config) (addr : NarrowAdr) : Bool :=
  (ctrlByteAt c addr).isSome || decide (addr.toNat = c.offTxData)

end Sys2Proof.Machine
end

