-- ==== Sys2Proof/WellFormed.lean ====
section
/-! DEFINITION. Which terms of `Instr` are operations of a fabric with configuration `c`. A term that fails a check has
no key in the operation table for `c` (30_encoding.md R103). -/

namespace Sys2Proof

open Machine

/-- The checks on one operation's operands. -/
def Instr.wf (c : Config) : Instr → Bool
  -- a byte of CTRL that exists (R207, R208)
  | .ctrlRd j | .ctrlWr j _ => decide (j.toNat < c.ctrlBytes)
  -- a narrow address of the region (R39, R96)
  | .csrRd addr | .csrWr addr _ => inRegion c addr
  -- a byte of the region that is no readable, no writable register byte (R206, R213)
  | .regRdNone addr => inRegion c addr && !readableByte c addr
  | .regWrNone addr _ => inRegion c addr && !writableByte c addr
  -- a transmit entry has 8 bits (R98)
  | .fifoPush f w | .fifoPushPop f w => decide (f = .rx) || decide (w.toNat < 256)
  -- the address lies in the range that selects the operation (R262)
  | .decMem d => selMem c d.adr
  | .decCsr d => selCsr c d.adr
  | .decMiss d => decodeMiss c d.adr
  -- every other operand is of its full width and may hold any value
  | .wbIdle _ _ | .wbWait _ _
  | .wbRdClassic _ _ _ | .wbRdConst _ _ _ | .wbRdIncrLinear _ _ _ | .wbRdIncrWrap4 _ _ _ | .wbRdIncrWrap8 _ _ _
  | .wbRdIncrWrap16 _ _ _ | .wbRdRsvd3 _ _ _ | .wbRdRsvd45 _ _ _ | .wbRdRsvd6 _ _ _ | .wbRdEob _ _ _
  | .wbWrClassic _ _ _ _ | .wbWrConst _ _ _ _ | .wbWrIncrLinear _ _ _ _ | .wbWrIncrWrap4 _ _ _ _
  | .wbWrIncrWrap8 _ _ _ _ | .wbWrIncrWrap16 _ _ _ _ | .wbWrRsvd3 _ _ _ _ | .wbWrRsvd45 _ _ _ _
  | .wbWrRsvd6 _ _ _ _ | .wbWrEob _ _ _ _
  | .mcIdle | .mcLatch _ | .mcRelease | .mcBeat _ _ _ _ _
  | .advLinear | .advWrap4 | .advWrap8 | .advWrap16
  | .brIdle | .brLane0 _ _ _ _ | .brLane1 _ _ _ _ | .brLane2 _ _ _ _ | .brLane3 _ _ _ _ | .brCollect | .brAck
  | .csrNop | .rxInfoRd | .rxDataRd | .txInfoRd | .txDataWr _
  | .fifoNop _ | .fifoPop _
  | .rxIdle | .rxAccept _ _ _ _ | .rxRefuse | .txIdle _ | .txPull | .txEmpty
  | .arbHold0 | .arbHold1 | .arbSwitch01 | .arbSwitch10 | .arbPark0 | .arbPark1 => true

end Sys2Proof
end

