-- ==== Sys2Proof/Decode.lean ====
section
/-! DEFINITION. The decoder: from a format, a key and the operand signals to an operation (30_encoding.md R90 to R105),
total, refusing by name; and the encoder, which writes the key of an operation from the same tables. The keys are the
spec's packing (R104); `OpWord` adds the operand signals that a key does not hold (log entry 11). -/

namespace Sys2Proof

open Machine

/-- The ten formats of R90. -/
inductive Format where
  | wb
  | mc
  | adv
  | br
  | csr
  | reg
  | fifo
  | ux
  | dec
  | arb
deriving DecidableEq, Repr

/-- The operand signals that stand beside a key; a field an operation does not name is ignored. -/
structure Args where
  port : Master := .m0
  fifo : FifoId := .rx
  cyc : Bool := false
  stb : Bool := false
  we : Bool := false
  cti : BitVec 3 := 0
  bte : BitVec 2 := 0
  adr : Adr := 0
  sel : BitVec 4 := 0
  datW : Word := 0
  csrAddr : NarrowAdr := 0
  csrWData : Byte := 0
  wData : RxEntry := 0
  rxData : Byte := 0
  rxOvf : Bool := false
  rxFerr : Bool := false
  rxPerr : Bool := false
deriving DecidableEq, Repr

/-- An encoded operation: its format, its key (R90) and its operand signals. -/
structure OpWord where
  fmt : Format
  key : Nat
  args : Args := {}
deriving DecidableEq, Repr

/-- Why a word is no operation. -/
inductive DecodeError where
  /-- The key has a bit beyond the width R90 gives the format. -/
  | keyTooWide (fmt : Format)
  /-- NK = 0b11: read and write strobe together (R105 (c), U10). -/
  | bothStrobes
  /-- A narrow address outside the region (R39, R96). -/
  | outsideRegion
  /-- Write data wider than an entry of the FIFO (R98). -/
  | entryTooWide
deriving DecidableEq, Repr

/-- The read or write strobe's kind by `cti` and `bte` (R97); `bte` counts for `cti = 0b010` only. -/
def decodeStrobe (m : Master) (we : Bool) (cti : BitVec 3) (bte : BitVec 2) (adr : Adr) (sel : BitVec 4)
    (datW : Word) : Instr :=
  if we then
    if cti = 0b000#3 then .wbWrClassic m adr sel datW
    else if cti = 0b001#3 then .wbWrConst m adr sel datW
    else if cti = 0b010#3 then
      if bte = 0b00#2 then .wbWrIncrLinear m adr sel datW
      else if bte = 0b01#2 then .wbWrIncrWrap4 m adr sel datW
      else if bte = 0b10#2 then .wbWrIncrWrap8 m adr sel datW
      else .wbWrIncrWrap16 m adr sel datW
    else if cti = 0b011#3 then .wbWrRsvd3 m adr sel datW
    else if cti = 0b110#3 then .wbWrRsvd6 m adr sel datW
    else if cti = 0b111#3 then .wbWrEob m adr sel datW
    else .wbWrRsvd45 m adr sel datW
  else
    if cti = 0b000#3 then .wbRdClassic m adr sel
    else if cti = 0b001#3 then .wbRdConst m adr sel
    else if cti = 0b010#3 then
      if bte = 0b00#2 then .wbRdIncrLinear m adr sel
      else if bte = 0b01#2 then .wbRdIncrWrap4 m adr sel
      else if bte = 0b10#2 then .wbRdIncrWrap8 m adr sel
      else .wbRdIncrWrap16 m adr sel
    else if cti = 0b011#3 then .wbRdRsvd3 m adr sel
    else if cti = 0b110#3 then .wbRdRsvd6 m adr sel
    else if cti = 0b111#3 then .wbRdEob m adr sel
    else .wbRdRsvd45 m adr sel

/-- The request a bracket stands for: CW's bits are cyc, stb, we, cti, bte from bit 7 down (R93). -/
def Bracket.request (b : Bracket) : Request where
  cyc := b.cw.getLsbD 7
  stb := b.cw.getLsbD 6
  we := b.cw.getLsbD 5
  cti := b.cw.extractLsb' 2 3
  bte := b.cw.extractLsb' 0 2
  adr := b.adr
  sel := b.sel
  datW := b.datW

/-- The WB operation of port `m` (R97): all 256 values of CW. -/
def decodeWB (m : Master) (b : Bracket) : Instr :=
  if !b.request.cyc then .wbIdle m b.adr
  else if !b.request.stb then .wbWait m b.adr
  else decodeStrobe m b.request.we b.request.cti b.request.bte b.adr b.sel b.datW

/-- The MC operation by MK = (mc_state == CYCLE, mc_beat) (R103). -/
def decodeMC (inCycle beat : Bool) (a : Args) : Instr :=
  if inCycle then
    if beat then .mcBeat a.we a.sel a.datW a.cti a.bte else .mcRelease
  else
    if beat then .mcLatch a.adr else .mcIdle

/-- The ADV operation by VK (R103). -/
def decodeADV (vk : BitVec 2) : Instr :=
  if vk = 0b00#2 then .advLinear
  else if vk = 0b01#2 then .advWrap4
  else if vk = 0b10#2 then .advWrap8
  else .advWrap16

/-- VK of R90: `bte` for an incrementing burst, 0b00 otherwise. -/
def advKey (cti : BitVec 3) (bte : BitVec 2) : BitVec 2 := if cti = 0b010#3 then bte else 0b00#2

/-- The BR operation by BK = (br_beat, br_ack, br_cnt) (R103); br_cnt 4 to 7 is BR.COLLECT (R198). -/
def decodeBR (beat ack : Bool) (cnt : BitVec 3) (a : Args) : Instr :=
  if !beat then .brIdle
  else if ack then .brAck
  else if cnt = 0#3 then .brLane0 a.adr a.sel a.we a.datW
  else if cnt = 1#3 then .brLane1 a.adr a.sel a.we a.datW
  else if cnt = 2#3 then .brLane2 a.adr a.sel a.we a.datW
  else if cnt = 3#3 then .brLane3 a.adr a.sel a.we a.datW
  else .brCollect

/-- The REG operation by RK = (csr_w_stb, csr_addr) (R103, R104). -/
def decodeREG (c : Config) (w : Bool) (addr : NarrowAdr) (data : Byte) : Instr :=
  match ctrlByteAt c addr, w with
  | some j, false => .ctrlRd j
  | some j, true => .ctrlWr j data
  | none, false =>
    if addr.toNat = c.offRxInfo then .rxInfoRd
    else if addr.toNat = c.offRxData then .rxDataRd
    else if addr.toNat = c.offTxInfo then .txInfoRd
    else .regRdNone addr
  | none, true =>
    if addr.toNat = c.offTxData then .txDataWr data
    else .regWrNone addr data

/-- The FIFO operation by FK = (do_write, do_read) (R103). -/
def decodeFIFO (f : FifoId) (doWrite doRead : Bool) (wData : RxEntry) : Instr :=
  if doWrite then
    if doRead then .fifoPushPop f wData else .fifoPush f wData
  else
    if doRead then .fifoPop f else .fifoNop f

/-- The receive side's UX operation by XR = (rx_rdy, rx_fifo.w_rdy) (R103). -/
def decodeRX (rxRdy wRdy : Bool) (data : Byte) (ovf ferr perr : Bool) : Instr :=
  if !rxRdy then .rxIdle
  else if wRdy then .rxAccept data ovf ferr perr
  else .rxRefuse

/-- The transmit side's UX operation by XT = (tx_rdy, tx_fifo.r_rdy) (R103). -/
def decodeTX (txRdy rRdy : Bool) : Instr :=
  if !txRdy then .txIdle rRdy
  else if rRdy then .txPull
  else .txEmpty

/-- The DEC operation by the downstream address (R103, R262). -/
def decodeDEC (c : Config) (d : Request) : Instr :=
  if selMem c d.adr then .decMem d
  else if selCsr c d.adr then .decCsr d
  else .decMiss d

/-- The ARB operation by AK = (grant, m1.cyc, m0.cyc) (R103). -/
def decodeARB (grant : Master) (cyc1 cyc0 : Bool) : Instr :=
  match grant, cyc1, cyc0 with
  | .m0, _, true => .arbHold0
  | .m1, true, _ => .arbHold1
  | .m0, true, false => .arbSwitch01
  | .m1, false, true => .arbSwitch10
  | .m0, false, false => .arbPark0
  | .m1, false, false => .arbPark1

/-- The request an operation of format DEC carries: the key is its address. -/
def Args.request (a : Args) (adr : Adr) : Request where
  cyc := a.cyc
  stb := a.stb
  we := a.we
  cti := a.cti
  bte := a.bte
  adr := adr
  sel := a.sel
  datW := a.datW

/-- The key's width in bits (R90). -/
def Format.keyWidth (c : Config) : Format → Nat
  | .wb => 8
  | .mc | .adv | .csr | .fifo | .ux => 2
  | .br => 5
  | .reg => 1 + c.csrAW
  | .dec => 30
  | .arb => 3

/-- Which operation a word is (R103, R104): total, a refusal names its reason. -/
def decode (c : Config) (w : OpWord) : Except DecodeError Instr :=
  if 2 ^ w.fmt.keyWidth c ≤ w.key then .error (.keyTooWide w.fmt)
  else
    match w.fmt with
    | .wb => .ok (decodeWB w.args.port { cw := BitVec.ofNat 8 w.key, adr := w.args.adr, sel := w.args.sel, datW := w.args.datW })
    | .mc => .ok (decodeMC (w.key.testBit 1) (w.key.testBit 0) w.args)
    | .adv => .ok (decodeADV (BitVec.ofNat 2 w.key))
    | .br => .ok (decodeBR (w.key.testBit 4) (w.key.testBit 3) (BitVec.ofNat 3 w.key) w.args)
    | .csr =>
      if w.key = 0b11 then .error .bothStrobes
      else if w.key = 0b00 then .ok .csrNop
      else if !inRegion c w.args.csrAddr then .error .outsideRegion
      else if w.key = 0b10 then .ok (.csrRd w.args.csrAddr)
      else .ok (.csrWr w.args.csrAddr w.args.csrWData)
    | .reg => .ok (decodeREG c (w.key.testBit c.csrAW) (BitVec.ofNat 32 (w.key % 2 ^ c.csrAW)) w.args.csrWData)
    | .fifo =>
      if w.args.fifo = .tx ∧ w.key.testBit 1 ∧ 256 ≤ w.args.wData.toNat then .error .entryTooWide
      else .ok (decodeFIFO w.args.fifo (w.key.testBit 1) (w.key.testBit 0) w.args.wData)
    | .ux =>
      match w.args.fifo with
      | .rx => .ok (decodeRX (w.key.testBit 1) (w.key.testBit 0) w.args.rxData w.args.rxOvf w.args.rxFerr w.args.rxPerr)
      | .tx => .ok (decodeTX (w.key.testBit 1) (w.key.testBit 0))
    | .dec => .ok (decodeDEC c (w.args.request (BitVec.ofNat 30 w.key)))
    | .arb => .ok (decodeARB (if w.key.testBit 2 then .m1 else .m0) (w.key.testBit 1) (w.key.testBit 0))

/-- The operand signals of a port's operation. -/
def wbArgs (m : Master) (adr : Adr) (sel : BitVec 4) (datW : Word) : Args :=
  { port := m, adr := adr, sel := sel, datW := datW }

/-- The operand signals of a lane's operation. -/
def laneArgs (adr : Adr) (sel : BitVec 4) (we : Bool) (datW : Word) : Args :=
  { adr := adr, sel := sel, we := we, datW := datW }

/-- The operand signals of a Decoder's operation. -/
def decArgs (d : Request) : Args :=
  { cyc := d.cyc, stb := d.stb, we := d.we, cti := d.cti, bte := d.bte, sel := d.sel, datW := d.datW }

/-- The word of an operation, from the key tables of R97 and R103 (spec/opcode_table.json: each row's `match`). A bit that
a row's mask leaves out is 0, but XT[0] of TX.IDLE, which the operation carries. -/
def encode (c : Config) : Instr → OpWord
  | .wbIdle m adr => ⟨.wb, 0x00, wbArgs m adr 0 0⟩
  | .wbWait m adr => ⟨.wb, 0x80, wbArgs m adr 0 0⟩
  | .wbRdClassic m adr sel => ⟨.wb, 0xC0, wbArgs m adr sel 0⟩
  | .wbWrClassic m adr sel datW => ⟨.wb, 0xE0, wbArgs m adr sel datW⟩
  | .wbRdConst m adr sel => ⟨.wb, 0xC4, wbArgs m adr sel 0⟩
  | .wbWrConst m adr sel datW => ⟨.wb, 0xE4, wbArgs m adr sel datW⟩
  | .wbRdIncrLinear m adr sel => ⟨.wb, 0xC8, wbArgs m adr sel 0⟩
  | .wbWrIncrLinear m adr sel datW => ⟨.wb, 0xE8, wbArgs m adr sel datW⟩
  | .wbRdIncrWrap4 m adr sel => ⟨.wb, 0xC9, wbArgs m adr sel 0⟩
  | .wbWrIncrWrap4 m adr sel datW => ⟨.wb, 0xE9, wbArgs m adr sel datW⟩
  | .wbRdIncrWrap8 m adr sel => ⟨.wb, 0xCA, wbArgs m adr sel 0⟩
  | .wbWrIncrWrap8 m adr sel datW => ⟨.wb, 0xEA, wbArgs m adr sel datW⟩
  | .wbRdIncrWrap16 m adr sel => ⟨.wb, 0xCB, wbArgs m adr sel 0⟩
  | .wbWrIncrWrap16 m adr sel datW => ⟨.wb, 0xEB, wbArgs m adr sel datW⟩
  | .wbRdRsvd3 m adr sel => ⟨.wb, 0xCC, wbArgs m adr sel 0⟩
  | .wbWrRsvd3 m adr sel datW => ⟨.wb, 0xEC, wbArgs m adr sel datW⟩
  | .wbRdRsvd45 m adr sel => ⟨.wb, 0xD0, wbArgs m adr sel 0⟩
  | .wbWrRsvd45 m adr sel datW => ⟨.wb, 0xF0, wbArgs m adr sel datW⟩
  | .wbRdRsvd6 m adr sel => ⟨.wb, 0xD8, wbArgs m adr sel 0⟩
  | .wbWrRsvd6 m adr sel datW => ⟨.wb, 0xF8, wbArgs m adr sel datW⟩
  | .wbRdEob m adr sel => ⟨.wb, 0xDC, wbArgs m adr sel 0⟩
  | .wbWrEob m adr sel datW => ⟨.wb, 0xFC, wbArgs m adr sel datW⟩
  | .mcIdle => ⟨.mc, 0b00, {}⟩
  | .mcLatch adr => ⟨.mc, 0b01, { adr := adr }⟩
  | .mcRelease => ⟨.mc, 0b10, {}⟩
  | .mcBeat we sel datW cti bte => ⟨.mc, 0b11, { we := we, sel := sel, datW := datW, cti := cti, bte := bte }⟩
  | .advLinear => ⟨.adv, 0b00, {}⟩
  | .advWrap4 => ⟨.adv, 0b01, {}⟩
  | .advWrap8 => ⟨.adv, 0b10, {}⟩
  | .advWrap16 => ⟨.adv, 0b11, {}⟩
  | .brIdle => ⟨.br, 0x00, {}⟩
  | .brLane0 adr sel we datW => ⟨.br, 0x10, laneArgs adr sel we datW⟩
  | .brLane1 adr sel we datW => ⟨.br, 0x11, laneArgs adr sel we datW⟩
  | .brLane2 adr sel we datW => ⟨.br, 0x12, laneArgs adr sel we datW⟩
  | .brLane3 adr sel we datW => ⟨.br, 0x13, laneArgs adr sel we datW⟩
  | .brCollect => ⟨.br, 0x14, {}⟩
  | .brAck => ⟨.br, 0x18, {}⟩
  | .csrNop => ⟨.csr, 0b00, {}⟩
  | .csrRd addr => ⟨.csr, 0b10, { csrAddr := addr }⟩
  | .csrWr addr data => ⟨.csr, 0b01, { csrAddr := addr, csrWData := data }⟩
  | .ctrlRd j => ⟨.reg, c.offCtrl + j.toNat, {}⟩
  | .ctrlWr j data => ⟨.reg, 2 ^ c.csrAW + (c.offCtrl + j.toNat), { csrWData := data }⟩
  | .rxInfoRd => ⟨.reg, c.offRxInfo, {}⟩
  | .rxDataRd => ⟨.reg, c.offRxData, {}⟩
  | .txInfoRd => ⟨.reg, c.offTxInfo, {}⟩
  | .txDataWr data => ⟨.reg, 2 ^ c.csrAW + c.offTxData, { csrWData := data }⟩
  | .regRdNone addr => ⟨.reg, addr.toNat, {}⟩
  | .regWrNone addr data => ⟨.reg, 2 ^ c.csrAW + addr.toNat, { csrWData := data }⟩
  | .fifoNop f => ⟨.fifo, 0b00, { fifo := f }⟩
  | .fifoPush f w => ⟨.fifo, 0b10, { fifo := f, wData := w }⟩
  | .fifoPop f => ⟨.fifo, 0b01, { fifo := f }⟩
  | .fifoPushPop f w => ⟨.fifo, 0b11, { fifo := f, wData := w }⟩
  | .rxIdle => ⟨.ux, 0b00, { fifo := .rx }⟩
  | .rxAccept data ovf ferr perr => ⟨.ux, 0b11, { fifo := .rx, rxData := data, rxOvf := ovf, rxFerr := ferr, rxPerr := perr }⟩
  | .rxRefuse => ⟨.ux, 0b10, { fifo := .rx }⟩
  | .txIdle r => ⟨.ux, if r then 0b01 else 0b00, { fifo := .tx }⟩
  | .txPull => ⟨.ux, 0b11, { fifo := .tx }⟩
  | .txEmpty => ⟨.ux, 0b10, { fifo := .tx }⟩
  | .decMem d => ⟨.dec, d.adr.toNat, decArgs d⟩
  | .decCsr d => ⟨.dec, d.adr.toNat, decArgs d⟩
  | .decMiss d => ⟨.dec, d.adr.toNat, decArgs d⟩
  | .arbHold0 => ⟨.arb, 0b001, {}⟩
  | .arbHold1 => ⟨.arb, 0b110, {}⟩
  | .arbSwitch01 => ⟨.arb, 0b010, {}⟩
  | .arbSwitch10 => ⟨.arb, 0b101, {}⟩
  | .arbPark0 => ⟨.arb, 0b000, {}⟩
  | .arbPark1 => ⟨.arb, 0b100, {}⟩

/-- The format in which a table word is read. A row's word does not say its format, and the key spaces of the formats
overlap, so one word can be the key of several rows; this rule reads each word in one format, the same for `decodeTableWord`
and State.withFetchWord. DESIGN CHOICE, log entry 10. -/
def tableFormat (nbits w : Nat) : Format :=
  if 8 < nbits then .dec
  else if w = 0 then .wb
  else if w < 4 then .mc
  else if w < 8 then .arb
  else if w < 0x10 then .reg
  else if w < 0x20 then .br
  else if w < 0x40 then .reg
  else .wb

/-- The operation this decoder reads from a word of spec/opcode_table.json, numbered as the table numbers its bits, for REF
(R104), with every operand signal 0. -/
def decodeTableWord (nbits w : Nat) : Option Instr :=
  match decode Config.ref ⟨tableFormat nbits w, w, {}⟩ with
  | .ok i => some i
  | .error _ => none

end Sys2Proof
end

