-- ==== Sys2Proof/Machine/Memory.lean ====
section
/-! DEFINITION. The memory array (10_state.md R25) as a list of (byte offset, byte) pairs in one canonical form, and its
operations: byte and word reads, the byte-lane write of 00_scope.md R10, the initial image. -/

namespace Sys2Proof.Machine

/-- The memory array: (byte offset, byte) pairs, offset 4 * index + lane. -/
abbrev Memory := List Host.Cell

/-- What an offset that is not listed reads as. REF's MEM_INIT is all zero (R6); any other initial content is listed
(log entry 5). -/
def Memory.unlisted : Byte := 0

/-- The byte at an offset. -/
def Memory.read : Memory → Nat → Byte
  | [], _ => Memory.unlisted
  | (k, v) :: rest, a => if k = a then v else Memory.read rest a

/-- The canonical form: offsets strictly rising, no entry equal to what an unlisted offset reads as. -/
def Memory.wf : Memory → Bool
  | [] => true
  | [(_, v)] => v != Memory.unlisted
  | (k, v) :: (k', v') :: rest => v != Memory.unlisted && decide (k < k') && Memory.wf ((k', v') :: rest)

/-- The list with one byte put in its place; a byte that an unlisted offset reads as removes the entry. -/
def Memory.write : Memory → Nat → Byte → Memory
  | [], a, b => if b = Memory.unlisted then [] else [(a, b)]
  | (k, v) :: rest, a, b =>
    if a < k then (if b = Memory.unlisted then (k, v) :: rest else (a, b) :: (k, v) :: rest)
    else if a = k then (if b = Memory.unlisted then rest else (a, b) :: rest)
    else (k, v) :: Memory.write rest a b

/-- The bytes of the words of an image, from word index `i` upward, lane 0 first (R353: byte 4i in bits 7:0). -/
def Memory.writeImage : Memory → Nat → List Word → Memory
  | m, _, [] => m
  | m, i, w :: ws =>
    Memory.writeImage
      ((((m.write (4 * i) (w.extractLsb' 0 8)).write (4 * i + 1) (w.extractLsb' 8 8)).write
        (4 * i + 2) (w.extractLsb' 16 8)).write (4 * i + 3) (w.extractLsb' 24 8))
      (i + 1) ws

/-- MemRead of R10: the word at index `i`, lane k in bits 8k+7:8k (R60). -/
def Memory.readWord (m : Memory) (i : Nat) : Word :=
  m.read (4 * i + 3) ++ (m.read (4 * i + 2) ++ (m.read (4 * i + 1) ++ m.read (4 * i)))

/-- One lane of MemWrite. -/
def Memory.writeLane (m : Memory) (i : Nat) (sel : BitVec 4) (v : Word) (k : Nat) : Memory :=
  if sel.getLsbD k then m.write (4 * i + k) (v.extractLsb' (8 * k) 8) else m

/-- MemWrite of R10: the lanes of `v` that `sel` selects replace those of the word at index `i`. -/
def Memory.writeWord (m : Memory) (i : Nat) (sel : BitVec 4) (v : Word) : Memory :=
  (((m.writeLane i sel v 0).writeLane i sel v 1).writeLane i sel v 2).writeLane i sel v 3

end Sys2Proof.Machine
end

