-- ==== Sys2Proof/Machine/State.lean ====
section
/-! DEFINITION. The state of the fabric: the record S of 10_state.md R20 (`Elements`), and beside it what a clock cycle
needs that is not state of the hardware: the configuration, the inputs still to come, the inputs and outputs and internal
signals of the clock cycle last performed, and the number of the clock cycle. All of it is plain data. -/

namespace Sys2Proof.Machine

/-- The two states of the Memory Controller (R23). -/
inductive McState where
  | idle
  | cycle
deriving DecidableEq, Repr

/-- The visibility counters of one FIFO in lagging mode (R226): entries written and not yet visible to the consumer, slots
freed and not yet visible to the producer. With each counter, and the model's own, the number of clock cycles that may still
pass before something of it is revealed: R226's fairness (log entry 7). -/
structure Vis where
  hidW : Nat := 0
  hidR : Nat := 0
  dueW : Nat := 0
  dueR : Nat := 0
deriving DecidableEq, Repr

/-- The record S: the thirteen elements of R20. -/
structure Elements where
  /-- R21 -/
  grant : Master := .m0
  /-- R23 -/
  mcState : McState := .idle
  /-- R24 -/
  mcAdr : Index := 0
  /-- R25 -/
  mem : Memory := []
  /-- R26 -/
  brDat : Word := 0
  /-- R27 -/
  brAck : Bool := false
  /-- R28 -/
  brCnt : BitVec 3 := 0
  /-- R29 -/
  csrRdata : Byte := 0
  /-- R30 -/
  divisor : Word := 0
  /-- R36; the oldest entry first -/
  rxFifo : List RxEntry := []
  /-- R37; the oldest entry first -/
  txFifo : List TxEntry := []
  /-- R226 -/
  rxVis : Vis := {}
  /-- R226 -/
  txVis : Vis := {}
deriving DecidableEq, Repr

/-- A response on a wide-bus port (R92). -/
structure Response where
  ack : Bool := false
  err : Bool := false
  datR : Word := 0
deriving DecidableEq, Repr

/-- The outputs O of one clock cycle (R42). -/
structure Outputs where
  m0 : Response := {}
  m1 : Response := {}
  rxAck : Bool := false
  txData : Byte := 0
  txAck : Bool := false
  divisor : Word := 0
deriving DecidableEq, Repr

/-- What a slave drives toward the Decoder: no slave has an `err` output (R160, R192). -/
structure SlavePort where
  ack : Bool := false
  datR : Word := 0
deriving DecidableEq, Repr

/-- The narrow bus (R96). -/
structure NarrowBus where
  addr : NarrowAdr := 0
  rStb : Bool := false
  wStb : Bool := false
  wData : Byte := 0
deriving DecidableEq, Repr

/-- The internal signals of one clock cycle that an operation drives (R300, R301): the Decoder's response, the two slaves'
ports, the narrow bus, the byte `v` a register read yields, the entry a FIFO hands over. -/
structure Wires where
  d : Response := {}
  p : SlavePort := {}
  q : SlavePort := {}
  narrow : NarrowBus := {}
  regV : Byte := 0
  rxRData : RxEntry := 0
  txRData : TxEntry := 0
deriving DecidableEq, Repr

/-- The state of the model. -/
structure State where
  /-- The configuration (R6), which no step changes (R45). -/
  cfg : Config
  /-- The record S of R20. -/
  el : Elements
  /-- The inputs of the clock cycles to come (R41, R108); after the last row every input is zero. -/
  script : List Row
  /-- The inputs of the current clock cycle. -/
  inp : Row
  /-- The outputs of the current clock cycle. -/
  out : Outputs
  /-- The internal signals of the current clock cycle. -/
  wires : Wires
  /-- The number of the current clock cycle (R8); the free values are indexed by it. -/
  tick : Nat
deriving DecidableEq, Repr

/-- Why the machine stops with a fault: never. "No exceptions exist at run time" (R320); a decode miss is a defined
response (R321), a receive overrun a missing acknowledge (R322). The type has no constructor, so no operation can raise
one: safe. -/
inductive Fault where
deriving DecidableEq, Repr

/-- Why the machine does not go on. -/
inductive Refusal where
  /-- An operation without a meaning; raised by an arm of `exec` that has none. Safe. No arm of this model raises it. -/
  | notModelled (mnemonic : String)
  /-- The configuration fails a check of R7: "no machine exists for it (the model refuses it)" (R323, U15). Raised by `step`
  alone. Safe: nothing can be proved of a run of a fabric that is never built. -/
  | illegalConfiguration
deriving DecidableEq, Repr

/-- The fabric with configuration `c` right after reset (R43, R350): clock cycle 0, every element at its reset value, no row
of inputs placed. The fields that are not elements of S are the model's own (log entry 14). -/
def State.resetOf (c : Config) : State where
  cfg := c
  el :=
    { grant := .m0
      mcState := .idle
      mcAdr := 0
      mem := Memory.writeImage [] 0 c.memInit
      brDat := 0
      brAck := false
      brCnt := 0
      csrRdata := 0
      divisor := c.divisorReset
      rxFifo := []
      txFifo := []
      rxVis := {}
      txVis := {} }
  script := []
  inp := {}
  out := {}
  wires := {}
  tick := 0

/-- The reference fabric (REF of R6) right after reset. -/
def State.reset : State := State.resetOf Config.ref

end Sys2Proof.Machine
end

