-- ==== Sys2Proof/Machine/Operands.lean ====
section
/-! DEFINITION. The operand forms: byte lanes, the word index and the narrow address an access reaches, the requests the
WB operations stand for, the entry a received byte becomes (30_encoding.md R100 to R102). -/

namespace Sys2Proof.Machine

/-- Byte lane `k` of a word: bits 8k+7:8k (R60). -/
def lane (v : Word) (k : Nat) : Byte := v.extractLsb' (8 * k) 8

/-- The word with byte lane `k` replaced (R195 to R198). -/
def setLane (v : Word) (k : Nat) (b : Byte) : Word :=
  (v &&& ~~~(0xFF#32 <<< (8 * k))) ||| (b.setWidth 32 <<< (8 * k))

/-- The word index the Memory Controller latches: the low MEM_AW bits of the address (R100, R161). -/
def memIndex (c : Config) (adr : Adr) : Index := BitVec.ofNat 30 (adr.toNat % 2 ^ c.memAW)

/-- The narrow address of lane `k` (R101): the low CSR_AW - 2 bits of the word address, then the lane number. -/
def narrowAddr (c : Config) (adr : Adr) (k : Nat) : NarrowAdr :=
  BitVec.ofNat 32 (adr.toNat % 2 ^ (c.csrAW - 2) * 4 + k % 4)

/-- A port that requests nothing (R125); its address, select and data lines carry what it presents. -/
def idleRequest (adr : Adr) (sel : BitVec 4) (datW : Word) : Request := { adr := adr, sel := sel, datW := datW }

/-- A port that holds its bus cycle without a beat (R126). -/
def waitRequest (adr : Adr) (sel : BitVec 4) (datW : Word) : Request :=
  { cyc := true, adr := adr, sel := sel, datW := datW }

/-- A read beat (R127 to R145); no read uses what its data lines carry. -/
def readRequest (cti : BitVec 3) (bte : BitVec 2) (adr : Adr) (sel : BitVec 4) (datW : Word) : Request :=
  { cyc := true, stb := true, we := false, cti := cti, bte := bte, adr := adr, sel := sel, datW := datW }

/-- A write beat (R128 to R146). -/
def writeRequest (cti : BitVec 3) (bte : BitVec 2) (adr : Adr) (sel : BitVec 4) (datW : Word) : Request :=
  { cyc := true, stb := true, we := true, cti := cti, bte := bte, adr := adr, sel := sel, datW := datW }

/-- A strobed beat: cyc and stb (R121). -/
def strobed (r : Request) : Bool := r.cyc && r.stb

/-- The receive entry: parity, frame, overflow, data (R98, R102). -/
def rxEntry (data : Byte) (ovf ferr perr : Bool) : RxEntry :=
  BitVec.ofBool perr ++ (BitVec.ofBool ferr ++ (BitVec.ofBool ovf ++ data))

/-- The data byte of a receive entry: bits 7:0 (R36). -/
def rxEntryData (e : RxEntry) : Byte := e.extractLsb' 0 8

/-- The error flags of a receive entry, bits 10:8: parity, frame, overflow (R36). -/
def rxEntryFlags (e : RxEntry) : BitVec 3 := e.extractLsb' 8 3

/-- RX_INFO's byte: bits 7:4 are 0, bits 3:1 the flags, bit 0 `rdy` (R31, R235). -/
def rxInfoByte (flags : BitVec 3) (rdy : Bool) : Byte := 0#4 ++ (flags ++ BitVec.ofBool rdy)

/-- TX_INFO's byte: bit 0 `rdy`, the others 0 (R33, R236). -/
def txInfoByte (rdy : Bool) : Byte := 0#7 ++ BitVec.ofBool rdy

/-- The request of a port in a row of inputs. -/
def portRequest (r : Row) (m : Master) : Request := (r.bracket m).request

/-- The downstream request of the current clock cycle: the granted port's (R281). -/
def State.downstream (s : State) : Request := portRequest s.inp s.el.grant

end Sys2Proof.Machine
end

