-- ==== Sys2Proof/Machine/Flags.lean ====
section
/-! DEFINITION. The status flags (10_state.md R38): the four FIFO flags (43_uart_fifo.md R222, R223) in both flag modes.
`ack` and `err` are driven by the operations that answer a beat. -/

namespace Sys2Proof.Machine

/-- `w_rdy` of a FIFO that holds `len` entries (R222). -/
def writeReady (mode : FifoMode) (depth len : Nat) (vis : Vis) : Bool :=
  match mode with
  | .exactFlags => decide (len < depth)
  | .laggingFlags => decide (len + vis.hidR < depth)

/-- `r_rdy` of a FIFO that holds `len` entries (R223). -/
def readReady (mode : FifoMode) (len : Nat) (vis : Vis) : Bool :=
  match mode with
  | .exactFlags => decide (0 < len)
  | .laggingFlags => decide (0 < len - vis.hidW)

/-- `rx_fifo.w_rdy`. -/
def State.rxWriteReady (s : State) : Bool :=
  writeReady s.cfg.fifoMode s.cfg.rxDepth s.el.rxFifo.length s.el.rxVis

/-- `rx_fifo.r_rdy`; RX_INFO.rdy mirrors it (R31). -/
def State.rxReadReady (s : State) : Bool :=
  readReady s.cfg.fifoMode s.el.rxFifo.length s.el.rxVis

/-- `tx_fifo.w_rdy`; TX_INFO.rdy mirrors it (R33). -/
def State.txWriteReady (s : State) : Bool :=
  writeReady s.cfg.fifoMode s.cfg.txDepth s.el.txFifo.length s.el.txVis

/-- `tx_fifo.r_rdy`. -/
def State.txReadReady (s : State) : Bool :=
  readReady s.cfg.fifoMode s.el.txFifo.length s.el.txVis

end Sys2Proof.Machine
end

