-- ==== Sys2Proof/Machine/Ops.lean ====
section
/-! DEFINITION. The named operations over State that the meanings share: writing one element of S, driving one signal, the
two halves of a FIFO's update (43_uart_fifo.md R224, R226), and the fabric's one error event, BusError
(60_exceptions.md R321). There is no return operation: "No return operation exists and none is needed" (R330). -/

namespace Sys2Proof.Machine

/-! Writing one element of S (R10: `S.f <- v`). -/

def State.setGrant (s : State) (v : Master) : State := { s with el := { s.el with grant := v } }
def State.setMcState (s : State) (v : McState) : State := { s with el := { s.el with mcState := v } }
def State.setMcAdr (s : State) (v : Index) : State := { s with el := { s.el with mcAdr := v } }
def State.setMem (s : State) (v : Memory) : State := { s with el := { s.el with mem := v } }
def State.setBrDat (s : State) (v : Word) : State := { s with el := { s.el with brDat := v } }
def State.setBrAck (s : State) (v : Bool) : State := { s with el := { s.el with brAck := v } }
def State.setBrCnt (s : State) (v : BitVec 3) : State := { s with el := { s.el with brCnt := v } }
def State.setCsrRdata (s : State) (v : Byte) : State := { s with el := { s.el with csrRdata := v } }
def State.setDivisor (s : State) (v : Word) : State := { s with el := { s.el with divisor := v } }
def State.setRxFifo (s : State) (v : List RxEntry) : State := { s with el := { s.el with rxFifo := v } }
def State.setTxFifo (s : State) (v : List TxEntry) : State := { s with el := { s.el with txFifo := v } }
def State.setRxVis (s : State) (v : Vis) : State := { s with el := { s.el with rxVis := v } }
def State.setTxVis (s : State) (v : Vis) : State := { s with el := { s.el with txVis := v } }

/-! Driving one signal of the current clock cycle (R10: `sig = e`). -/

def State.driveD (s : State) (v : Response) : State := { s with wires := { s.wires with d := v } }
def State.driveP (s : State) (v : SlavePort) : State := { s with wires := { s.wires with p := v } }
def State.driveQ (s : State) (v : SlavePort) : State := { s with wires := { s.wires with q := v } }
def State.driveNarrow (s : State) (v : NarrowBus) : State := { s with wires := { s.wires with narrow := v } }
def State.driveRegV (s : State) (v : Byte) : State := { s with wires := { s.wires with regV := v } }
def State.driveRxRData (s : State) (v : RxEntry) : State := { s with wires := { s.wires with rxRData := v } }
def State.driveTxRData (s : State) (v : TxEntry) : State := { s with wires := { s.wires with txRData := v } }
def State.driveRxAck (s : State) (v : Bool) : State := { s with out := { s.out with rxAck := v } }
def State.driveTx (s : State) (ack : Bool) (data : Byte) : State := { s with out := { s.out with txAck := ack, txData := data } }

/-- The response on one port. -/
def State.driveMaster (s : State) (m : Master) (v : Response) : State :=
  match m with
  | .m0 => { s with out := { s.out with m0 := v } }
  | .m1 => { s with out := { s.out with m1 := v } }

/-- A port's response in an output record. -/
def Outputs.master (o : Outputs) : Master → Response
  | .m0 => o.m0
  | .m1 => o.m1

/-! The FIFOs (R224, R226). -/

/-- The counters after a write and a read of this clock cycle, before anything is revealed (R226); they exist in lagging
mode only (R225). -/
def Vis.bump (v : Vis) (mode : FifoMode) (doWrite doRead : Bool) : Vis :=
  match mode with
  | .exactFlags => v
  | .laggingFlags => { v with hidW := v.hidW + doWrite.toNat, hidR := v.hidR + doRead.toNat }

/-- `choose(0 .. n)` of R226: some number from 0 to `n`, but not 0 where `n` are hidden and their time is up (`due = 0`). The
oldest hidden one is revealed first, so "every hidden entry and every hidden slot becomes visible after finitely many clock
cycles" (R226). -/
def choose (seed due n : Nat) : Nat :=
  if due = 0 then max (Free.choice seed % (n + 1)) (min 1 n) else Free.choice seed % (n + 1)

/-- How many clock cycles may still pass without a reveal (R226): a new number wherever nothing was hidden or something has been
revealed, else one clock cycle less. -/
def nextDue (seed due n : Nat) : Nat := if n = 0 ∨ 0 < choose seed due n then Free.patience seed else due - 1

/-- What becomes visible at the end of a clock cycle (R226): a choice within the counters `old` of the cycle's start. -/
def Vis.reveal (v : Vis) (mode : FifoMode) (seedW seedR : Nat) (old : Vis) : Vis :=
  match mode with
  | .exactFlags => v
  | .laggingFlags =>
    { hidW := v.hidW - choose seedW old.dueW old.hidW
      hidR := v.hidR - choose seedR old.dueR old.hidR
      dueW := nextDue seedW old.dueW old.hidW
      dueR := nextDue seedR old.dueR old.hidR }

/-- `rx_fifo.r_data` (R241): the oldest entry while the FIFO is ready to read, a free value otherwise. -/
def State.rxRData (s : State) : RxEntry :=
  if s.rxReadReady then s.el.rxFifo.headD (Free.rxEntry s.tick) else Free.rxEntry s.tick

/-- `tx_fifo.r_data` (R241) for a given `r_rdy`. -/
def State.txRDataIf (s : State) (rRdy : Bool) : TxEntry :=
  if rRdy then s.el.txFifo.headD (Free.txEntry s.tick) else Free.txEntry s.tick

/-- The push half of `rx_fifo`'s update: the entry becomes the newest (R224). -/
def State.rxPush (s : State) (e : RxEntry) : State :=
  (s.setRxFifo (s.el.rxFifo ++ [e])).setRxVis (s.el.rxVis.bump s.cfg.fifoMode true false)

/-- The pop half of `rx_fifo`'s update: the oldest entry is handed over and removed (R224). -/
def State.rxPop (s : State) : State :=
  ((s.driveRxRData (s.el.rxFifo.headD (Free.rxEntry s.tick))).setRxFifo s.el.rxFifo.tail).setRxVis
    (s.el.rxVis.bump s.cfg.fifoMode false true)

/-- The push half of `tx_fifo`'s update. -/
def State.txPush (s : State) (e : TxEntry) : State :=
  (s.setTxFifo (s.el.txFifo ++ [e])).setTxVis (s.el.txVis.bump s.cfg.fifoMode true false)

/-- The pop half of `tx_fifo`'s update. -/
def State.txPop (s : State) : State :=
  ((s.driveTxRData (s.el.txFifo.headD (Free.txEntry s.tick))).setTxFifo s.el.txFifo.tail).setTxVis
    (s.el.txVis.bump s.cfg.fifoMode false true)

/-- `rx_fifo`'s reveal at the end of the clock cycle that began with the counters `old` (R226). -/
def State.rxReveal (s : State) (old : Vis) : State :=
  s.setRxVis (s.el.rxVis.reveal s.cfg.fifoMode (4 * s.tick) (4 * s.tick + 1) old)

/-- `tx_fifo`'s reveal. -/
def State.txReveal (s : State) (old : Vis) : State :=
  s.setTxVis (s.el.txVis.reveal s.cfg.fifoMode (4 * s.tick + 2) (4 * s.tick + 3) old)

/-! BusError. -/

/-- `raise BusError` (R10, R321): `err = 1` on the granted bus in the current clock cycle, `ack = 0`, `dat_r = 0`. "Nothing
is saved" (R321), "no mode changes, no mask changes, control goes nowhere" (R328): no element of S changes. -/
def State.raiseBusError (s : State) : State := s.driveD { ack := false, err := true, datR := 0 }

end Sys2Proof.Machine
end

