-- ==== Sys2Proof/Machine/Fifo.lean ====
section
/-! DEFINITION. The four FIFO operations (43_uart_fifo.md R227, R228, R229, R234): what one FIFO does in one clock cycle,
with the counters of lagging mode (R226). -/

namespace Sys2Proof.Machine

/-- The counters of one FIFO, by name. -/
def State.vis (s : State) : FifoId → Vis
  | .rx => s.el.rxVis
  | .tx => s.el.txVis

/-- The reveal that ends a FIFO's clock cycle; `old` are the counters it began with (R226). -/
def State.reveal (s : State) (f : FifoId) (old : Vis) : State :=
  match f with
  | .rx => s.rxReveal old
  | .tx => s.txReveal old

/-- The push half on the FIFO named; a transmit entry is the low 8 bits of the operand. -/
def State.push (s : State) (f : FifoId) (wData : RxEntry) : State :=
  match f with
  | .rx => s.rxPush wData
  | .tx => s.txPush (wData.setWidth 8)

/-- The pop half on the FIFO named. -/
def State.pop (s : State) : FifoId → State
  | .rx => s.rxPop
  | .tx => s.txPop

/-- FIFO.NOP: the list is unchanged; in lagging mode the flags may still rise (R227). -/
def execFifoNop (f : FifoId) (s : State) : Host.Outcome State Fault Refusal := .next (s.reveal f (s.vis f))

/-- FIFO.PUSH (R228). -/
def execFifoPush (f : FifoId) (wData : RxEntry) (s : State) : Host.Outcome State Fault Refusal :=
  .next ((s.push f wData).reveal f (s.vis f))

/-- FIFO.POP (R229). -/
def execFifoPop (f : FifoId) (s : State) : Host.Outcome State Fault Refusal :=
  .next ((s.pop f).reveal f (s.vis f))

/-- FIFO.PUSHPOP: the consumer takes the old head, the new entry goes to the back (R234). -/
def execFifoPushPop (f : FifoId) (wData : RxEntry) (s : State) : Host.Outcome State Fault Refusal :=
  .next (((s.pop f).push f wData).reveal f (s.vis f))

end Sys2Proof.Machine
end

