-- ==== Sys2Proof/Machine/RegisterFile.lean ====
section
/-! DEFINITION. The Register File: the eight REG operations (42_csr_bridge.md R206, R207, R208, R213; 43_uart_fifo.md R232,
R233, R235, R236) and the three CSR operations of the narrow bus (R201 to R203). A register read drives the byte it
yields on the signal `regV`; CSR.RD registers that byte in `csr_rdata`. -/

namespace Sys2Proof.Machine

/-- CTRL.RD: byte `j` of the divisor, widened with zeros (R207). -/
def State.readCtrl (s : State) (j : BitVec 2) : State := s.driveRegV (lane s.el.divisor j.toNat)

/-- CTRL.WR: byte `j` of the divisor is replaced, the bits that DIVISOR_WIDTH leaves out are dropped (R208, R303). -/
def State.writeCtrl (s : State) (j : BitVec 2) (data : Byte) : State :=
  s.setDivisor (BitVec.ofNat 32 ((setLane s.el.divisor j.toNat data).toNat % 2 ^ s.cfg.divisorWidth))

/-- RX_INFO.RD: the ready flag and the flags of the oldest entry, which are free while the FIFO is not ready; the entry
stays (R235). -/
def State.readRxInfo (s : State) : State :=
  s.driveRegV (rxInfoByte (rxEntryFlags s.rxRData) s.rxReadReady)

/-- RX_DATA.RD: the byte of the oldest entry, which is popped; a free byte, and no pop, while the FIFO is not ready
(R232). -/
def State.readRxData (s : State) : State :=
  if s.rxReadReady then (s.driveRegV (rxEntryData s.rxRData)).rxPop
  else s.driveRegV (rxEntryData s.rxRData)

/-- TX_INFO.RD: the transmit FIFO's ready-to-write flag (R236). -/
def State.readTxInfo (s : State) : State := s.driveRegV (txInfoByte s.txWriteReady)

/-- TX_DATA.WR: the byte is pushed, or discarded while the FIFO is not ready to write (R233). -/
def State.writeTxData (s : State) (data : Byte) : State :=
  if s.txWriteReady then s.txPush data else s

/-- REG.RD.NONE: zero, no side effect (R206). -/
def State.readNone (s : State) : State := s.driveRegV 0

/-- The register read that a narrow address selects (R201, R103). -/
def State.regRead (s : State) (addr : NarrowAdr) : State :=
  match ctrlByteAt s.cfg addr with
  | some j => s.readCtrl j
  | none =>
    if addr.toNat = s.cfg.offRxInfo then s.readRxInfo
    else if addr.toNat = s.cfg.offRxData then s.readRxData
    else if addr.toNat = s.cfg.offTxInfo then s.readTxInfo
    else s.readNone

/-- The register write that a narrow address selects (R202, R103); elsewhere nothing changes (R213). -/
def State.regWrite (s : State) (addr : NarrowAdr) (data : Byte) : State :=
  match ctrlByteAt s.cfg addr with
  | some j => s.writeCtrl j data
  | none => if addr.toNat = s.cfg.offTxData then s.writeTxData data else s

/-! The CSR operations drive the strobes and the signals that are their operands; the other lines of the narrow bus stay as the
Bridge drives them (R192). -/

/-- CSR.RD: the byte read is in `csr_rdata` in the next clock cycle (R191, R201). -/
def State.csrRead (s : State) (addr : NarrowAdr) : State :=
  let t := (s.driveNarrow { s.wires.narrow with addr := addr, rStb := true, wStb := false }).regRead addr
  t.setCsrRdata t.wires.regV

/-- CSR.WR (R202). -/
def State.csrWrite (s : State) (addr : NarrowAdr) (data : Byte) : State :=
  ((s.driveNarrow { addr := addr, wStb := true, wData := data }).regWrite addr data).setCsrRdata 0

/-- CSR.NOP (R203). -/
def State.csrNop (s : State) : State :=
  (s.driveNarrow { s.wires.narrow with rStb := false, wStb := false }).setCsrRdata 0

/-- CTRL.RD (R207). -/
def execCtrlRd (j : BitVec 2) (s : State) : Host.Outcome State Fault Refusal := .next (s.readCtrl j)

/-- CTRL.WR (R208). -/
def execCtrlWr (j : BitVec 2) (data : Byte) (s : State) : Host.Outcome State Fault Refusal := .next (s.writeCtrl j data)

/-- RX_INFO.RD (R235). -/
def execRxInfoRd (s : State) : Host.Outcome State Fault Refusal := .next s.readRxInfo

/-- RX_DATA.RD (R232). -/
def execRxDataRd (s : State) : Host.Outcome State Fault Refusal := .next s.readRxData

/-- TX_INFO.RD (R236). -/
def execTxInfoRd (s : State) : Host.Outcome State Fault Refusal := .next s.readTxInfo

/-- TX_DATA.WR (R233). -/
def execTxDataWr (data : Byte) (s : State) : Host.Outcome State Fault Refusal := .next (s.writeTxData data)

/-- REG.RD.NONE (R206). -/
def execRegRdNone (_addr : NarrowAdr) (s : State) : Host.Outcome State Fault Refusal := .next s.readNone

/-- REG.WR.NONE: "Nothing changes" (R213). -/
def execRegWrNone (_addr : NarrowAdr) (_data : Byte) (s : State) : Host.Outcome State Fault Refusal := .next s

/-- CSR.NOP (R203). -/
def execCsrNop (s : State) : Host.Outcome State Fault Refusal := .next s.csrNop

/-- CSR.RD (R201). -/
def execCsrRd (addr : NarrowAdr) (s : State) : Host.Outcome State Fault Refusal := .next (s.csrRead addr)

/-- CSR.WR (R202). -/
def execCsrWr (addr : NarrowAdr) (data : Byte) (s : State) : Host.Outcome State Fault Refusal :=
  .next (s.csrWrite addr data)

end Sys2Proof.Machine
end

