-- ==== Sys2Proof/Machine/Bridge.lean ====
section
/-! DEFINITION. The Bridge (42_csr_bridge.md R192) and its seven operations (R193 to R199). Each performs the narrow-bus
operation its strobes select in the same clock cycle. -/

namespace Sys2Proof.Machine

/-- The Bridge's port in the current clock cycle: `q.dat_r = S.br_dat` (R192). -/
def State.driveBridgePort (s : State) (ack : Bool) : State := s.driveQ { ack := ack, datR := s.el.brDat }

/-- `csr_addr` and `csr_w_data` for lane `k` of the request on the Bridge's port, in every clock cycle, whatever the strobes
(R101, R102, R192). -/
def State.driveLane (s : State) (k : Nat) (adr : Adr) (datW : Word) : State :=
  s.driveNarrow { s.wires.narrow with addr := narrowAddr s.cfg adr k, wData := lane datW k }

/-- The lane that `br_cnt` counts: `k` of R192. -/
def State.driveCountedLane (s : State) (adr : Adr) (datW : Word) : State := s.driveLane (s.el.brCnt.toNat % 4) adr datW

/-- The narrow beat of lane `k` (R192): a read or a write of the lane's address where `sel` selects the lane, else none. -/
def State.issueLane (s : State) (k : Nat) (adr : Adr) (sel : BitVec 4) (we : Bool) (datW : Word) : State :=
  let t := s.driveLane k adr datW
  if sel.getLsbD k then
    if we then t.csrWrite (narrowAddr s.cfg adr k) (lane datW k) else t.csrRead (narrowAddr s.cfg adr k)
  else t.csrNop

/-- The byte read a clock cycle ago goes into lane `k` of the assembly register (R195 to R198). -/
def State.collectLane (s : State) (k : Nat) : State := s.setBrDat (setLane s.el.brDat k s.el.csrRdata)

/-- BR.IDLE: no narrow strobe, counter and acknowledge cleared, the assembly register keeps its value (R193). -/
def State.brIdle (s : State) (adr : Adr) (datW : Word) : State :=
  ((((s.driveBridgePort false).driveCountedLane adr datW).csrNop).setBrCnt 0).setBrAck false

/-- BR.LANE0: the narrow beat of lane 0 (R194). -/
def State.brLane0 (s : State) (adr : Adr) (sel : BitVec 4) (we : Bool) (datW : Word) : State :=
  ((s.driveBridgePort false).issueLane 0 adr sel we datW).setBrCnt 1

/-- BR.LANE1: the narrow beat of lane 1; lane 0 is collected (R195). -/
def State.brLane1 (s : State) (adr : Adr) (sel : BitVec 4) (we : Bool) (datW : Word) : State :=
  (((s.driveBridgePort false).collectLane 0).issueLane 1 adr sel we datW).setBrCnt 2

/-- BR.LANE2: the narrow beat of lane 2; lane 1 is collected (R196). -/
def State.brLane2 (s : State) (adr : Adr) (sel : BitVec 4) (we : Bool) (datW : Word) : State :=
  (((s.driveBridgePort false).collectLane 1).issueLane 2 adr sel we datW).setBrCnt 3

/-- BR.LANE3: the narrow beat of lane 3; lane 2 is collected (R197). -/
def State.brLane3 (s : State) (adr : Adr) (sel : BitVec 4) (we : Bool) (datW : Word) : State :=
  (((s.driveBridgePort false).collectLane 2).issueLane 3 adr sel we datW).setBrCnt 4

/-- BR.COLLECT: no narrow strobe; lane 3 is collected and the acknowledge scheduled (R198). -/
def State.brCollect (s : State) (adr : Adr) (datW : Word) : State :=
  (((((s.driveBridgePort false).driveCountedLane adr datW).collectLane 3).csrNop).setBrAck true).setBrCnt 0

/-- BR.ACK: the acknowledge, with the assembly register as data (R199). -/
def State.brAckCycle (s : State) (adr : Adr) (datW : Word) : State :=
  ((((s.driveBridgePort true).driveCountedLane adr datW).csrNop).setBrAck false).setBrCnt 0

/-- The Bridge's operation of a clock cycle, by BK = (br_beat, br_ack, br_cnt) (R192); br_cnt 5 to 7 are read as 4
(R198). -/
def State.brPerform (s : State) (beat : Bool) (b : Request) : State :=
  if !beat then s.brIdle b.adr b.datW
  else if s.el.brAck then s.brAckCycle b.adr b.datW
  else if s.el.brCnt = 0#3 then s.brLane0 b.adr b.sel b.we b.datW
  else if s.el.brCnt = 1#3 then s.brLane1 b.adr b.sel b.we b.datW
  else if s.el.brCnt = 2#3 then s.brLane2 b.adr b.sel b.we b.datW
  else if s.el.brCnt = 3#3 then s.brLane3 b.adr b.sel b.we b.datW
  else s.brCollect b.adr b.datW

/-! The three operations without operands show on the narrow bus's lines the request that is downstream in the clock cycle (R192,
R266, R281). -/

/-- BR.IDLE (R193). -/
def execBrIdle (s : State) : Host.Outcome State Fault Refusal := .next (s.brIdle s.downstream.adr s.downstream.datW)

/-- BR.LANE0 (R194). -/
def execBrLane0 (adr : Adr) (sel : BitVec 4) (we : Bool) (datW : Word) (s : State) : Host.Outcome State Fault Refusal :=
  .next (s.brLane0 adr sel we datW)

/-- BR.LANE1 (R195). -/
def execBrLane1 (adr : Adr) (sel : BitVec 4) (we : Bool) (datW : Word) (s : State) : Host.Outcome State Fault Refusal :=
  .next (s.brLane1 adr sel we datW)

/-- BR.LANE2 (R196). -/
def execBrLane2 (adr : Adr) (sel : BitVec 4) (we : Bool) (datW : Word) (s : State) : Host.Outcome State Fault Refusal :=
  .next (s.brLane2 adr sel we datW)

/-- BR.LANE3 (R197). -/
def execBrLane3 (adr : Adr) (sel : BitVec 4) (we : Bool) (datW : Word) (s : State) : Host.Outcome State Fault Refusal :=
  .next (s.brLane3 adr sel we datW)

/-- BR.COLLECT (R198). -/
def execBrCollect (s : State) : Host.Outcome State Fault Refusal := .next (s.brCollect s.downstream.adr s.downstream.datW)

/-- BR.ACK (R199). -/
def execBrAck (s : State) : Host.Outcome State Fault Refusal := .next (s.brAckCycle s.downstream.adr s.downstream.datW)

end Sys2Proof.Machine
end

