-- ==== Sys2Proof/Machine/Burst.lean ====
section
/-! DEFINITION. The burst address generator: Advance (41_memory_controller.md R165) and the four ADV operations
(R167, R168, R169, R171) with the laws of R170. -/

namespace Sys2Proof.Machine

/-- One linear step: addition of 1 modulo 2^MEM_AW (R167). -/
def nextLinear (c : Config) (a : Index) : Index := BitVec.ofNat 30 ((a.toNat + 1) % 2 ^ c.memAW)

/-- One wrapping step: the low `w` bits count modulo 2^w, the others stay (R168, R169, R171); a window wider than the
address is the whole address (R170 (4)). -/
def nextWrap (c : Config) (w : Nat) (a : Index) : Index :=
  let k := min w c.memAW
  BitVec.ofNat 30 (a.toNat / 2 ^ k * 2 ^ k + (a.toNat + 1) % 2 ^ k)

/-- The latched address after ADV.LINEAR. -/
def State.advanceLinear (s : State) : State := s.setMcAdr (nextLinear s.cfg s.el.mcAdr)

/-- The latched address after ADV.WRAP4, ADV.WRAP8, ADV.WRAP16 for `w` = 2, 3, 4. -/
def State.advanceWrap (s : State) (w : Nat) : State := s.setMcAdr (nextWrap s.cfg w s.el.mcAdr)

/-- Advance by the cycle type and burst type of the beat (R165): VK = `bte` for `cti` = 0b010, else 0b00. -/
def State.advance (s : State) (cti : BitVec 3) (bte : BitVec 2) : State :=
  if advKey cti bte = 0b00#2 then s.advanceLinear
  else if advKey cti bte = 0b01#2 then s.advanceWrap 2
  else if advKey cti bte = 0b10#2 then s.advanceWrap 3
  else s.advanceWrap 4

/-- ADV.LINEAR (R167). -/
def execAdvLinear (s : State) : Host.Outcome State Fault Refusal := .next s.advanceLinear

/-- ADV.WRAP4 (R168). -/
def execAdvWrap4 (s : State) : Host.Outcome State Fault Refusal := .next (s.advanceWrap 2)

/-- ADV.WRAP8 (R169). -/
def execAdvWrap8 (s : State) : Host.Outcome State Fault Refusal := .next (s.advanceWrap 3)

/-- ADV.WRAP16 (R171). -/
def execAdvWrap16 (s : State) : Host.Outcome State Fault Refusal := .next (s.advanceWrap 4)

end Sys2Proof.Machine
end

