-- ==== Sys2Proof/Machine/MemoryController.lean ====
section
/-! DEFINITION. The four MC operations (41_memory_controller.md R161 to R164), the write commit (R166) and the
controller's outputs (R172). -/

namespace Sys2Proof.Machine

/-- The controller's port in the current clock cycle (R172): `p.dat_r` shows the addressed word in every clock cycle. -/
def State.driveMemoryPort (s : State) (ack : Bool) : State :=
  s.driveP { ack := ack, datR := s.el.mem.readWord s.el.mcAdr.toNat }

/-- The write commit of R166. -/
def State.commitWrite (s : State) (we : Bool) (sel : BitVec 4) (datW : Word) : State :=
  if we && s.cfg.memWritable then s.setMem (s.el.mem.writeWord s.el.mcAdr.toNat sel datW) else s

/-- MC.IDLE: "No state changes; p.ack = 0" (R164). -/
def State.mcIdle (s : State) : State := s.driveMemoryPort false

/-- MC.LATCH: the address is latched, the state is CYCLE, nothing is read or written in the array (R161). -/
def State.mcLatch (s : State) (adr : Adr) : State :=
  ((s.driveMemoryPort false).setMcAdr (memIndex s.cfg adr)).setMcState .cycle

/-- MC.RELEASE: the state is IDLE; the latched address and the array keep their values (R163). -/
def State.mcRelease (s : State) : State := (s.driveMemoryPort false).setMcState .idle

/-- MC.BEAT: acknowledge, return the word, commit a write, advance the latched address (R162). -/
def State.mcBeat (s : State) (we : Bool) (sel : BitVec 4) (datW : Word) (cti : BitVec 3) (bte : BitVec 2) : State :=
  ((((s.driveMemoryPort true).commitWrite we sel datW).advance cti bte)).setMcState .cycle

/-- The controller's operation of a clock cycle, by MK = (mc_state == CYCLE, mc_beat) (R160). -/
def State.mcPerform (s : State) (beat : Bool) (b : Request) : State :=
  match s.el.mcState, beat with
  | .idle, false => s.mcIdle
  | .idle, true => s.mcLatch b.adr
  | .cycle, false => s.mcRelease
  | .cycle, true => s.mcBeat b.we b.sel b.datW b.cti b.bte

/-- MC.IDLE (R164). -/
def execMcIdle (s : State) : Host.Outcome State Fault Refusal := .next s.mcIdle

/-- MC.LATCH (R161). -/
def execMcLatch (adr : Adr) (s : State) : Host.Outcome State Fault Refusal := .next (s.mcLatch adr)

/-- MC.RELEASE (R163). -/
def execMcRelease (s : State) : Host.Outcome State Fault Refusal := .next s.mcRelease

/-- MC.BEAT (R162). -/
def execMcBeat (we : Bool) (sel : BitVec 4) (datW : Word) (cti : BitVec 3) (bte : BitVec 2) (s : State) :
    Host.Outcome State Fault Refusal :=
  .next (s.mcBeat we sel datW cti bte)

end Sys2Proof.Machine
end

