-- ==== Sys2Proof/Machine/AddressDecoder.lean ====
section
/-! DEFINITION. The three DEC operations (44_decoder.md R263 to R265): request fan-out (R266), the slaves' operations of
the clock cycle, response multiplexer (R267). -/

namespace Sys2Proof.Machine

/-- DEC.MEM: the Memory Controller's port carries the request, the Bridge is idle (R263). -/
def State.routeMem (s : State) (d : Request) : State :=
  let t := (s.mcPerform (strobed d) d).brPerform false d
  t.driveD { ack := t.wires.p.ack, err := false, datR := t.wires.p.datR }

/-- DEC.CSR: the Bridge's port carries the request, the Memory Controller is idle (R264). -/
def State.routeCsr (s : State) (d : Request) : State :=
  let t := (s.mcPerform false d).brPerform (strobed d) d
  t.driveD { ack := t.wires.q.ack, err := false, datR := t.wires.q.datR }

/-- DEC.MISS: both slaves are idle; a strobed beat is answered with `err` (R265, R321). -/
def State.routeMiss (s : State) (d : Request) : State :=
  let t := (s.mcPerform false d).brPerform false d
  if strobed d then t.raiseBusError else t.driveD {}

/-- The Decoder's operation of a clock cycle, by the downstream address (R262). -/
def State.decPerform (s : State) (d : Request) : State :=
  if selMem s.cfg d.adr then s.routeMem d
  else if selCsr s.cfg d.adr then s.routeCsr d
  else s.routeMiss d

/-- DEC.MEM (R263). -/
def execDecMem (d : Request) (s : State) : Host.Outcome State Fault Refusal := .next (s.routeMem d)

/-- DEC.CSR (R264). -/
def execDecCsr (d : Request) (s : State) : Host.Outcome State Fault Refusal := .next (s.routeCsr d)

/-- DEC.MISS (R265). -/
def execDecMiss (d : Request) (s : State) : Host.Outcome State Fault Refusal := .next (s.routeMiss d)

end Sys2Proof.Machine
end

