-- ==== Sys2Proof/Machine/Arbiter.lean ====
section
/-! DEFINITION. The six ARB operations (45_arbiter.md R284 to R289) and their selection by AK (R283). -/

namespace Sys2Proof.Machine

/-- The Arbiter's operation of a clock cycle, by AK = (grant, m1.cyc, m0.cyc) (R283 to R289): the grant is held while its
holder has `cyc`, passes to the other port if that port alone has it, and else stays. -/
def State.arbPerform (s : State) (cyc1 cyc0 : Bool) : State :=
  match s.el.grant, cyc1, cyc0 with
  | .m0, _, true => s.setGrant .m0
  | .m1, true, _ => s.setGrant .m1
  | .m0, true, false => s.setGrant .m1
  | .m1, false, true => s.setGrant .m0
  | .m0, false, false => s.setGrant .m0
  | .m1, false, false => s.setGrant .m1

/-- ARB.HOLD0 (R284). -/
def execArbHold0 (s : State) : Host.Outcome State Fault Refusal := .next (s.setGrant .m0)

/-- ARB.HOLD1 (R285). -/
def execArbHold1 (s : State) : Host.Outcome State Fault Refusal := .next (s.setGrant .m1)

/-- ARB.SWITCH01 (R286). -/
def execArbSwitch01 (s : State) : Host.Outcome State Fault Refusal := .next (s.setGrant .m1)

/-- ARB.SWITCH10 (R287). -/
def execArbSwitch10 (s : State) : Host.Outcome State Fault Refusal := .next (s.setGrant .m0)

/-- ARB.PARK0 (R288). -/
def execArbPark0 (s : State) : Host.Outcome State Fault Refusal := .next (s.setGrant .m0)

/-- ARB.PARK1 (R289). -/
def execArbPark1 (s : State) : Host.Outcome State Fault Refusal := .next (s.setGrant .m1)

end Sys2Proof.Machine
end

