-- ==== Sys2Proof/Machine/MasterPort.lean ====
section
/-! DEFINITION. The 22 WB operations: what a master port does to the fabric by presenting a control word for one clock
cycle (40_bus_ops.md R120 to R146). The granted port's request reaches the Decoder (45_arbiter.md R281), the response comes
back to it alone (R282), and the Arbiter updates the grant (R283); the other port's request reaches nothing. -/

namespace Sys2Proof.Machine

/-- The select lines of a port that presents no beat: an input of the clock cycle and no operand (R125, R126). -/
def State.selLines (s : State) (m : Master) : BitVec 4 := (s.inp.bracket m).sel

/-- The data lines of a port that does not write: an input of the clock cycle and no operand (R127). They reach the narrow bus's
`csr_w_data` (R192) and nothing else. -/
def State.datLines (s : State) (m : Master) : Word := (s.inp.bracket m).datW

/-- Response fan-out (R282): `ack` and `err` to the granted port, `dat_r` to both. -/
def State.respond (s : State) (m : Master) : State :=
  (s.driveMaster m { ack := s.wires.d.ack, err := s.wires.d.err, datR := s.wires.d.datR }).driveMaster m.other
    { ack := false, err := false, datR := s.wires.d.datR }

/-- What a port that is not granted sees: no response (R124, R291). -/
def State.wait (s : State) (m : Master) : State :=
  s.driveMaster m { (s.out.master m) with ack := false, err := false }

/-- The Arbiter's operation in the clock cycle in which port `m` presents `cyc`; the other port's `cyc` is an input. -/
def State.arbitrate (s : State) (m : Master) (cyc : Bool) : State :=
  match m with
  | .m0 => s.arbPerform (portRequest s.inp .m1).cyc cyc
  | .m1 => s.arbPerform cyc (portRequest s.inp .m0).cyc

/-- One clock cycle of port `m` presenting request `b` (R123, R124): Serve if it is granted, else nothing. -/
def State.portCycle (s : State) (m : Master) (b : Request) : State :=
  if s.el.grant = m then ((s.decPerform b).respond m).arbitrate m b.cyc
  else s.wait m

/-- WB.IDLE (R125). -/
def execWbIdle (m : Master) (adr : Adr) (s : State) : Host.Outcome State Fault Refusal :=
  .next (s.portCycle m (idleRequest adr (s.selLines m) (s.datLines m)))

/-- WB.WAIT (R126). -/
def execWbWait (m : Master) (adr : Adr) (s : State) : Host.Outcome State Fault Refusal :=
  .next (s.portCycle m (waitRequest adr (s.selLines m) (s.datLines m)))

/-- WB.RD.CLASSIC (R127). -/
def execWbRdClassic (m : Master) (adr : Adr) (sel : BitVec 4) (s : State) : Host.Outcome State Fault Refusal :=
  .next (s.portCycle m (readRequest 0b000#3 0b00#2 adr sel (s.datLines m)))

/-- WB.WR.CLASSIC (R128). -/
def execWbWrClassic (m : Master) (adr : Adr) (sel : BitVec 4) (datW : Word) (s : State) : Host.Outcome State Fault Refusal :=
  .next (s.portCycle m (writeRequest 0b000#3 0b00#2 adr sel datW))

/-- WB.RD.CONST (R129). -/
def execWbRdConst (m : Master) (adr : Adr) (sel : BitVec 4) (s : State) : Host.Outcome State Fault Refusal :=
  .next (s.portCycle m (readRequest 0b001#3 0b00#2 adr sel (s.datLines m)))

/-- WB.WR.CONST (R130). -/
def execWbWrConst (m : Master) (adr : Adr) (sel : BitVec 4) (datW : Word) (s : State) : Host.Outcome State Fault Refusal :=
  .next (s.portCycle m (writeRequest 0b001#3 0b00#2 adr sel datW))

/-- WB.RD.INCR.LINEAR (R131). -/
def execWbRdIncrLinear (m : Master) (adr : Adr) (sel : BitVec 4) (s : State) : Host.Outcome State Fault Refusal :=
  .next (s.portCycle m (readRequest 0b010#3 0b00#2 adr sel (s.datLines m)))

/-- WB.WR.INCR.LINEAR (R135). -/
def execWbWrIncrLinear (m : Master) (adr : Adr) (sel : BitVec 4) (datW : Word) (s : State) : Host.Outcome State Fault Refusal :=
  .next (s.portCycle m (writeRequest 0b010#3 0b00#2 adr sel datW))

/-- WB.RD.INCR.WRAP4 (R132). -/
def execWbRdIncrWrap4 (m : Master) (adr : Adr) (sel : BitVec 4) (s : State) : Host.Outcome State Fault Refusal :=
  .next (s.portCycle m (readRequest 0b010#3 0b01#2 adr sel (s.datLines m)))

/-- WB.WR.INCR.WRAP4 (R136). -/
def execWbWrIncrWrap4 (m : Master) (adr : Adr) (sel : BitVec 4) (datW : Word) (s : State) : Host.Outcome State Fault Refusal :=
  .next (s.portCycle m (writeRequest 0b010#3 0b01#2 adr sel datW))

/-- WB.RD.INCR.WRAP8 (R133). -/
def execWbRdIncrWrap8 (m : Master) (adr : Adr) (sel : BitVec 4) (s : State) : Host.Outcome State Fault Refusal :=
  .next (s.portCycle m (readRequest 0b010#3 0b10#2 adr sel (s.datLines m)))

/-- WB.WR.INCR.WRAP8 (R137). -/
def execWbWrIncrWrap8 (m : Master) (adr : Adr) (sel : BitVec 4) (datW : Word) (s : State) : Host.Outcome State Fault Refusal :=
  .next (s.portCycle m (writeRequest 0b010#3 0b10#2 adr sel datW))

/-- WB.RD.INCR.WRAP16 (R134). -/
def execWbRdIncrWrap16 (m : Master) (adr : Adr) (sel : BitVec 4) (s : State) : Host.Outcome State Fault Refusal :=
  .next (s.portCycle m (readRequest 0b010#3 0b11#2 adr sel (s.datLines m)))

/-- WB.WR.INCR.WRAP16 (R138). -/
def execWbWrIncrWrap16 (m : Master) (adr : Adr) (sel : BitVec 4) (datW : Word) (s : State) : Host.Outcome State Fault Refusal :=
  .next (s.portCycle m (writeRequest 0b010#3 0b11#2 adr sel datW))

/-- WB.RD.RSVD3 (R139). -/
def execWbRdRsvd3 (m : Master) (adr : Adr) (sel : BitVec 4) (s : State) : Host.Outcome State Fault Refusal :=
  .next (s.portCycle m (readRequest 0b011#3 0b00#2 adr sel (s.datLines m)))

/-- WB.WR.RSVD3 (R140). -/
def execWbWrRsvd3 (m : Master) (adr : Adr) (sel : BitVec 4) (datW : Word) (s : State) : Host.Outcome State Fault Refusal :=
  .next (s.portCycle m (writeRequest 0b011#3 0b00#2 adr sel datW))

/-- WB.RD.RSVD45 (R141). -/
def execWbRdRsvd45 (m : Master) (adr : Adr) (sel : BitVec 4) (s : State) : Host.Outcome State Fault Refusal :=
  .next (s.portCycle m (readRequest 0b100#3 0b00#2 adr sel (s.datLines m)))

/-- WB.WR.RSVD45 (R142). -/
def execWbWrRsvd45 (m : Master) (adr : Adr) (sel : BitVec 4) (datW : Word) (s : State) : Host.Outcome State Fault Refusal :=
  .next (s.portCycle m (writeRequest 0b100#3 0b00#2 adr sel datW))

/-- WB.RD.RSVD6 (R143). -/
def execWbRdRsvd6 (m : Master) (adr : Adr) (sel : BitVec 4) (s : State) : Host.Outcome State Fault Refusal :=
  .next (s.portCycle m (readRequest 0b110#3 0b00#2 adr sel (s.datLines m)))

/-- WB.WR.RSVD6 (R144). -/
def execWbWrRsvd6 (m : Master) (adr : Adr) (sel : BitVec 4) (datW : Word) (s : State) : Host.Outcome State Fault Refusal :=
  .next (s.portCycle m (writeRequest 0b110#3 0b00#2 adr sel datW))

/-- WB.RD.EOB (R145). -/
def execWbRdEob (m : Master) (adr : Adr) (sel : BitVec 4) (s : State) : Host.Outcome State Fault Refusal :=
  .next (s.portCycle m (readRequest 0b111#3 0b00#2 adr sel (s.datLines m)))

/-- WB.WR.EOB (R146). -/
def execWbWrEob (m : Master) (adr : Adr) (sel : BitVec 4) (datW : Word) (s : State) : Host.Outcome State Fault Refusal :=
  .next (s.portCycle m (writeRequest 0b111#3 0b00#2 adr sel datW))

end Sys2Proof.Machine
end

