-- ==== Sys2Proof/Machine/Transceiver.lean ====
section
/-! DEFINITION. The six UX operations of the transceiver interface (43_uart_fifo.md R230, R231, R237, R238, R240, R246),
with the wiring of R245. -/

namespace Sys2Proof.Machine

/-- RX.IDLE: `rx_ack = 0` (R238). -/
def execRxIdle (s : State) : Host.Outcome State Fault Refusal := .next (s.driveRxAck false)

/-- RX.ACCEPT: `rx_ack = 1`; the byte with its flags, as presented, is pushed (R230). -/
def execRxAccept (data : Byte) (ovf ferr perr : Bool) (s : State) : Host.Outcome State Fault Refusal :=
  .next ((s.driveRxAck true).rxPush (rxEntry data ovf ferr perr))

/-- RX.REFUSE: the receive overrun; `rx_ack = 0`, nothing is stored, no flag is set (R237, R322). -/
def execRxRefuse (s : State) : Host.Outcome State Fault Refusal := .next (s.driveRxAck false)

/-- TX.IDLE: `tx_ack = 0`; `tx_data` still shows `tx_fifo.r_data` (R240). -/
def execTxIdle (rRdy : Bool) (s : State) : Host.Outcome State Fault Refusal :=
  .next (s.driveTx false (s.txRDataIf rRdy))

/-- TX.PULL: `tx_ack = 1`, `tx_data` is the oldest entry, which is popped (R231). -/
def execTxPull (s : State) : Host.Outcome State Fault Refusal :=
  .next ((s.driveTx true (s.txRDataIf true)).txPop)

/-- TX.EMPTY: `tx_ack = 0`, `tx_data` is free, nothing changes (R246). -/
def execTxEmpty (s : State) : Host.Outcome State Fault Refusal := .next (s.driveTx false (s.txRDataIf false))

end Sys2Proof.Machine
end

