-- ==== Sys2Proof/Machine/Dispatch.lean ====
section
/-! DEFINITION. The meaning of every operation: one arm for each constructor of Instr. -/

namespace Sys2Proof.Machine

def exec (i : Instr) (s : State) : Host.Outcome State Fault Refusal :=
  match i with
  | .wbIdle m adr => Sys2Proof.Machine.execWbIdle m adr s
  | .wbWait m adr => Sys2Proof.Machine.execWbWait m adr s
  | .wbRdClassic m adr sel => Sys2Proof.Machine.execWbRdClassic m adr sel s
  | .wbWrClassic m adr sel datW => Sys2Proof.Machine.execWbWrClassic m adr sel datW s
  | .wbRdConst m adr sel => Sys2Proof.Machine.execWbRdConst m adr sel s
  | .wbWrConst m adr sel datW => Sys2Proof.Machine.execWbWrConst m adr sel datW s
  | .wbRdIncrLinear m adr sel => Sys2Proof.Machine.execWbRdIncrLinear m adr sel s
  | .wbWrIncrLinear m adr sel datW => Sys2Proof.Machine.execWbWrIncrLinear m adr sel datW s
  | .wbRdIncrWrap4 m adr sel => Sys2Proof.Machine.execWbRdIncrWrap4 m adr sel s
  | .wbWrIncrWrap4 m adr sel datW => Sys2Proof.Machine.execWbWrIncrWrap4 m adr sel datW s
  | .wbRdIncrWrap8 m adr sel => Sys2Proof.Machine.execWbRdIncrWrap8 m adr sel s
  | .wbWrIncrWrap8 m adr sel datW => Sys2Proof.Machine.execWbWrIncrWrap8 m adr sel datW s
  | .wbRdIncrWrap16 m adr sel => Sys2Proof.Machine.execWbRdIncrWrap16 m adr sel s
  | .wbWrIncrWrap16 m adr sel datW => Sys2Proof.Machine.execWbWrIncrWrap16 m adr sel datW s
  | .wbRdRsvd3 m adr sel => Sys2Proof.Machine.execWbRdRsvd3 m adr sel s
  | .wbWrRsvd3 m adr sel datW => Sys2Proof.Machine.execWbWrRsvd3 m adr sel datW s
  | .wbRdRsvd45 m adr sel => Sys2Proof.Machine.execWbRdRsvd45 m adr sel s
  | .wbWrRsvd45 m adr sel datW => Sys2Proof.Machine.execWbWrRsvd45 m adr sel datW s
  | .wbRdRsvd6 m adr sel => Sys2Proof.Machine.execWbRdRsvd6 m adr sel s
  | .wbWrRsvd6 m adr sel datW => Sys2Proof.Machine.execWbWrRsvd6 m adr sel datW s
  | .wbRdEob m adr sel => Sys2Proof.Machine.execWbRdEob m adr sel s
  | .wbWrEob m adr sel datW => Sys2Proof.Machine.execWbWrEob m adr sel datW s
  | .mcIdle => Sys2Proof.Machine.execMcIdle s
  | .mcLatch adr => Sys2Proof.Machine.execMcLatch adr s
  | .mcRelease => Sys2Proof.Machine.execMcRelease s
  | .mcBeat we sel datW cti bte => Sys2Proof.Machine.execMcBeat we sel datW cti bte s
  | .advLinear => Sys2Proof.Machine.execAdvLinear s
  | .advWrap4 => Sys2Proof.Machine.execAdvWrap4 s
  | .advWrap8 => Sys2Proof.Machine.execAdvWrap8 s
  | .advWrap16 => Sys2Proof.Machine.execAdvWrap16 s
  | .brIdle => Sys2Proof.Machine.execBrIdle s
  | .brLane0 adr sel we datW => Sys2Proof.Machine.execBrLane0 adr sel we datW s
  | .brLane1 adr sel we datW => Sys2Proof.Machine.execBrLane1 adr sel we datW s
  | .brLane2 adr sel we datW => Sys2Proof.Machine.execBrLane2 adr sel we datW s
  | .brLane3 adr sel we datW => Sys2Proof.Machine.execBrLane3 adr sel we datW s
  | .brCollect => Sys2Proof.Machine.execBrCollect s
  | .brAck => Sys2Proof.Machine.execBrAck s
  | .csrNop => Sys2Proof.Machine.execCsrNop s
  | .csrRd addr => Sys2Proof.Machine.execCsrRd addr s
  | .csrWr addr data => Sys2Proof.Machine.execCsrWr addr data s
  | .ctrlRd j => Sys2Proof.Machine.execCtrlRd j s
  | .ctrlWr j data => Sys2Proof.Machine.execCtrlWr j data s
  | .rxInfoRd => Sys2Proof.Machine.execRxInfoRd s
  | .rxDataRd => Sys2Proof.Machine.execRxDataRd s
  | .txInfoRd => Sys2Proof.Machine.execTxInfoRd s
  | .txDataWr data => Sys2Proof.Machine.execTxDataWr data s
  | .regRdNone addr => Sys2Proof.Machine.execRegRdNone addr s
  | .regWrNone addr data => Sys2Proof.Machine.execRegWrNone addr data s
  | .fifoNop f => Sys2Proof.Machine.execFifoNop f s
  | .fifoPush f wData => Sys2Proof.Machine.execFifoPush f wData s
  | .fifoPop f => Sys2Proof.Machine.execFifoPop f s
  | .fifoPushPop f wData => Sys2Proof.Machine.execFifoPushPop f wData s
  | .rxIdle => Sys2Proof.Machine.execRxIdle s
  | .rxAccept data ovf ferr perr => Sys2Proof.Machine.execRxAccept data ovf ferr perr s
  | .rxRefuse => Sys2Proof.Machine.execRxRefuse s
  | .txIdle rRdy => Sys2Proof.Machine.execTxIdle rRdy s
  | .txPull => Sys2Proof.Machine.execTxPull s
  | .txEmpty => Sys2Proof.Machine.execTxEmpty s
  | .decMem d => Sys2Proof.Machine.execDecMem d s
  | .decCsr d => Sys2Proof.Machine.execDecCsr d s
  | .decMiss d => Sys2Proof.Machine.execDecMiss d s
  | .arbHold0 => Sys2Proof.Machine.execArbHold0 s
  | .arbHold1 => Sys2Proof.Machine.execArbHold1 s
  | .arbSwitch01 => Sys2Proof.Machine.execArbSwitch01 s
  | .arbSwitch10 => Sys2Proof.Machine.execArbSwitch10 s
  | .arbPark0 => Sys2Proof.Machine.execArbPark0 s
  | .arbPark1 => Sys2Proof.Machine.execArbPark1 s

end Sys2Proof.Machine
end

