-- ==== Sys2Proof/Machine/Cycle.lean ====
section
/-! DEFINITION. What one clock cycle is made of: loading the row of inputs (30_encoding.md R108), the operations that the
keys of the clock cycle select (R90, R103), the clock edge; and the staging of a table word. -/

namespace Sys2Proof.Machine

/-- One operation after another; a fault or a refusal ends the sequence. -/
def andThen (o : Host.Outcome State Fault Refusal) (f : State → Host.Outcome State Fault Refusal) :
    Host.Outcome State Fault Refusal :=
  match o with
  | .next s => f s
  | .fault r => .fault r
  | .refused r => .refused r

/-- The inputs of the next clock cycle: the script's first row, all zero after its last row (R108). -/
def State.nextRow (s : State) : Row := s.script.headD {}

/-- The start of a clock cycle: its inputs are taken from the script, no signal is driven yet but the `divisor` output,
which shows the register (R243). -/
def State.load (s : State) : State :=
  { s with script := s.script.tail, inp := s.nextRow, wires := {}, out := { divisor := s.el.divisor } }

/-- The granted port's WB operation (R97, R281). -/
def State.grantedOp (s : State) : Instr := decodeWB s.el.grant (s.inp.bracket s.el.grant)

/-- The waiting port's WB operation. -/
def State.waitingOp (s : State) : Instr := decodeWB s.el.grant.other (s.inp.bracket s.el.grant.other)

/-- The receive side's UX operation, by XR (R103). -/
def State.rxOp (s : State) : Instr :=
  decodeRX s.inp.x.rxRdy s.rxWriteReady s.inp.x.rxData s.inp.x.rxOvf s.inp.x.rxFerr s.inp.x.rxPerr

/-- The transmit side's UX operation, by XT (R103). -/
def State.txOp (s : State) : Instr := decodeTX s.inp.x.txRdy s.txReadReady

/-- The edge that ends the clock cycle begun in state `start`: each FIFO's reveal (R226), and the next clock cycle's
number. -/
def State.edge (s : State) (start : State) : State :=
  { (s.rxReveal start.el.rxVis).txReveal start.el.txVis with tick := s.tick + 1 }

/-! The other operations of the clock cycle, performed inside the granted port's: the same keys, read by the decoder. -/

/-- The Arbiter's operation, by AK. -/
def State.arbOp (s : State) : Instr := decodeARB s.el.grant (portRequest s.inp .m1).cyc (portRequest s.inp .m0).cyc

/-- The Decoder's operation. -/
def State.decOp (s : State) : Instr := decodeDEC s.cfg s.downstream

/-- `mc_beat` (R160, R266). -/
def State.mcBeatNow (s : State) : Bool := strobed s.downstream && selMem s.cfg s.downstream.adr

/-- `br_beat` (R192, R266). -/
def State.brBeatNow (s : State) : Bool := strobed s.downstream && selCsr s.cfg s.downstream.adr

/-- The operand signals the downstream request offers. -/
def downstreamArgs (d : Request) : Args :=
  { cyc := d.cyc, stb := d.stb, we := d.we, cti := d.cti, bte := d.bte, adr := d.adr, sel := d.sel, datW := d.datW }

/-- The Memory Controller's operation, by MK. -/
def State.mcOp (s : State) : Instr :=
  decodeMC (decide (s.el.mcState = .cycle)) s.mcBeatNow (downstreamArgs s.downstream)

/-- The Bridge's operation, by BK. -/
def State.brOp (s : State) : Instr := decodeBR s.brBeatNow s.el.brAck s.el.brCnt (downstreamArgs s.downstream)

/-! The signals of rule R303's combinational part that the FIFO keys are made of. -/

/-- `active` of R192. -/
def State.narrowActive (s : State) : Bool := s.brBeatNow && !s.el.brAck && decide (s.el.brCnt.toNat ≤ 3)

/-- `k` of R192: the lane of the clock cycle. -/
def State.laneNow (s : State) : Nat := s.el.brCnt.toNat % 4

/-- `csr_addr` of R192. -/
def State.narrowNow (s : State) : NarrowAdr := narrowAddr s.cfg s.downstream.adr s.laneNow

/-- `csr_r_stb` of R192. -/
def State.readStrobe (s : State) : Bool :=
  s.narrowActive && s.downstream.sel.getLsbD s.laneNow && !s.downstream.we

/-- `csr_w_stb` of R192. -/
def State.writeStrobe (s : State) : Bool :=
  s.narrowActive && s.downstream.sel.getLsbD s.laneNow && s.downstream.we

/-- `rx_fifo`'s operation, by FK (R221, R245). -/
def State.rxFifoOp (s : State) : Instr :=
  decodeFIFO .rx (s.inp.x.rxRdy && s.rxWriteReady)
    (s.readStrobe && decide (s.narrowNow.toNat = s.cfg.offRxData) && s.rxReadReady)
    (rxEntry s.inp.x.rxData s.inp.x.rxOvf s.inp.x.rxFerr s.inp.x.rxPerr)

/-- `tx_fifo`'s operation, by FK (R221, R245). -/
def State.txFifoOp (s : State) : Instr :=
  decodeFIFO .tx (s.writeStrobe && decide (s.narrowNow.toNat = s.cfg.offTxData) && s.txWriteReady)
    (s.inp.x.txRdy && s.txReadReady)
    ((lane s.downstream.datW s.laneNow).setWidth 11)

/-! Staging a table word. A row's key holds state bits beside input bits, so the word is placed by putting the state bits
where the key's component reads them and one row of inputs, on port m0, before the script. -/

/-- Port m0 granted, presenting one bracket in the next clock cycle. -/
def State.stageBracket (s : State) (b : Bracket) : State :=
  { s with el := { s.el with grant := .m0 }, script := { m0 := b } :: s.script }

/-- The first word address of the memory range. -/
def memWordBase (c : Config) : Adr := BitVec.ofNat 30 (c.memBase / 4)

/-- The word address of the CSR region's word that holds a narrow address. -/
def csrWord (c : Config) (addr : Nat) : Adr := BitVec.ofNat 30 (c.csrBase / 4 + addr / 4)

/-- The state whose next clock cycle performs the operation that `decodeTableWord` reads from the word (log entry 10). -/
def State.stage (s : State) (nbits w : Nat) : State :=
  match tableFormat nbits w with
  | .wb => { s with script := { m0 := { cw := BitVec.ofNat 8 w } } :: s.script }
  | .mc =>
    (s.stageBracket { cw := if w.testBit 0 then 0xC0 else 0x00, adr := memWordBase s.cfg }).setMcState
      (if w.testBit 1 then .cycle else .idle)
  | .br =>
    ((s.stageBracket { cw := if w.testBit 4 then 0xC0 else 0x00, adr := csrWord s.cfg 0 }).setBrAck
      (w.testBit 3)).setBrCnt (BitVec.ofNat 3 w)
  | .reg =>
    ((s.stageBracket
      { cw := if w.testBit s.cfg.csrAW then 0xE0 else 0xC0
        adr := csrWord s.cfg (w % 2 ^ s.cfg.csrAW)
        sel := 0xF }).setBrAck false).setBrCnt (BitVec.ofNat 3 (w % 4))
  | .dec => s.stageBracket { adr := BitVec.ofNat 30 w }
  | .arb =>
    { s with
      el := { s.el with grant := if w.testBit 2 then .m1 else .m0 }
      script :=
        { m0 := { cw := if w.testBit 0 then 0x80 else 0x00 }
          m1 := { cw := if w.testBit 1 then 0x80 else 0x00 } } :: s.script }
  | .adv | .csr | .fifo | .ux => s

end Sys2Proof.Machine
end

