-- ==== Sys2Proof/Machine/Step.lean ====
section
/-! DEFINITION. One step: one clock cycle (00_scope.md R8, 46_top.md R303), as the operations the clock cycle performs. -/

namespace Sys2Proof.Machine

/-- One clock cycle. The row of inputs is loaded; the waiting port's WB operation, the granted port's (with the Decoder's,
the slaves' and the Arbiter's inside it), the receive side's and the transmit side's UX operation are each the one its key
selects at the start of the clock cycle; the edge ends it. A fabric with an illegal configuration is never built (R7). -/
def step (s : State) : Host.Outcome State Fault Refusal :=
  if s.cfg.legal then
    andThen (exec s.load.waitingOp s.load) fun a =>
    andThen (exec s.load.grantedOp a) fun b =>
    andThen (exec s.load.rxOp b) fun c =>
    andThen (exec s.load.txOp c) fun d =>
    .next (d.edge s.load)
  else .refused .illegalConfiguration

/-- The state whose next step performs the operation of a table word (log entry 10): see `State.stage`. -/
def State.withFetchWord (s : State) (nbits w : Nat) : State := s.stage nbits w

end Sys2Proof.Machine
end

