-- ==== Sys2Proof/Machine/Flat.lean ====
section
/-! DEFINITION. The step function of 46_top.md R303 and the outputs of R302, written down as they stand there, over the
record S and one row of inputs, without the operations. A statement says that `step` agrees with them. -/

namespace Sys2Proof.Machine

/-- `Advance` by its mask formula (41_memory_controller.md R165): W = 0, 2, 3, 4 by VK, mask = 2^W - 1, confined to MEM_AW
bits (R170 (4)). -/
def flatAdvance (c : Config) (a : Index) (cti : BitVec 3) (bte : BitVec 2) : Index :=
  let vk : BitVec 2 := if cti = 0b010#3 then bte else 0#2
  if vk = 0#2 then BitVec.ofNat 30 ((a.toNat + 1) % 2 ^ c.memAW)
  else
    let w := min (vk.toNat + 1) c.memAW
    let mask : BitVec 30 := BitVec.ofNat 30 (2 ^ w - 1)
    (a &&& ~~~mask) ||| ((a + 1#30) &&& mask)

/-- The counters of one FIFO after the clock cycle (43_uart_fifo.md R226); they do not exist in exact mode (R225). How long a
reveal may still wait is the model's form of R226's fairness (log entry 7). -/
def flatVis (mode : FifoMode) (v : Vis) (seedW seedR : Nat) (doWrite doRead : Bool) : Vis :=
  match mode with
  | .exactFlags => v
  | .laggingFlags =>
    { hidW := v.hidW - choose seedW v.dueW v.hidW + (if doWrite then 1 else 0)
      hidR := v.hidR - choose seedR v.dueR v.hidR + (if doRead then 1 else 0)
      dueW := nextDue seedW v.dueW v.hidW
      dueR := nextDue seedR v.dueR v.hidR }

/-- The combinational signals of R303. -/
structure FlatSignals where
  b : Request
  otherCyc : Bool
  selMem : Bool
  selCsr : Bool
  mcBeat : Bool
  brBeat : Bool
  naddr : Nat
  rStb : Bool
  wStb : Bool
  wByte : Byte
  rxPush : Bool
  rxPop : Bool
  txPush : Bool
  txPull : Bool
  txRRdy : Bool
  rxWRdy : Bool
  v : Byte

/-- R303, "combinational", in clock cycle `t`. -/
def flatSignals (c : Config) (t : Nat) (S : Elements) (I : Row) : FlatSignals :=
  let b := (I.bracket S.grant).request
  let beat := b.cyc && b.stb
  let selMem := b.adr.toNat >>> c.memAW == c.memBase >>> (c.memAW + 2)
  let selCsr := b.adr.toNat >>> (c.csrAW - 2) == c.csrBase >>> c.csrAW
  let mcBeat := beat && selMem
  let brBeat := beat && selCsr
  let active := brBeat && !S.brAck && decide (S.brCnt.toNat ≤ 3)
  let k := S.brCnt.toNat % 4
  let naddr := b.adr.toNat % 2 ^ (c.csrAW - 2) * 4 + k
  let rStb := active && b.sel.getLsbD k && !b.we
  let wStb := active && b.sel.getLsbD k && b.we
  let wByte := b.datW.extractLsb' (8 * k) 8
  let rxWRdy := writeReady c.fifoMode c.rxDepth S.rxFifo.length S.rxVis
  let rxRRdy := readReady c.fifoMode S.rxFifo.length S.rxVis
  let txWRdy := writeReady c.fifoMode c.txDepth S.txFifo.length S.txVis
  let txRRdy := readReady c.fifoMode S.txFifo.length S.txVis
  let head := S.rxFifo.headD (Free.rxEntry t)
  let v : Byte :=
    if c.offCtrl ≤ naddr ∧ naddr < c.offCtrl + c.ctrlBytes then S.divisor.extractLsb' (8 * (naddr - c.offCtrl)) 8
    else if naddr = c.offRxInfo then
      if rxRRdy then 0#4 ++ (head.extractLsb' 8 3 ++ 1#1) else 0#4 ++ ((Free.rxEntry t).extractLsb' 8 3 ++ 0#1)
    else if naddr = c.offRxData then
      if rxRRdy then head.extractLsb' 0 8 else (Free.rxEntry t).extractLsb' 0 8
    else if naddr = c.offTxInfo then 0#7 ++ BitVec.ofBool txWRdy
    else 0
  { b := b
    otherCyc := (I.bracket S.grant.other).request.cyc
    selMem := selMem
    selCsr := selCsr
    mcBeat := mcBeat
    brBeat := brBeat
    naddr := naddr
    rStb := rStb
    wStb := wStb
    wByte := wByte
    rxPush := I.x.rxRdy && rxWRdy
    rxPop := rStb && decide (naddr = c.offRxData) && rxRRdy
    txPush := wStb && decide (naddr = c.offTxData) && txWRdy
    txPull := I.x.txRdy && txRRdy
    txRRdy := txRRdy
    rxWRdy := rxWRdy
    v := v }

/-- `S'` of R303: every element is a function of S and I at the start of the clock cycle. -/
def flatNext (c : Config) (t : Nat) (S : Elements) (I : Row) : Elements :=
  let f := flatSignals c t S I
  { grant := if !f.b.cyc && f.otherCyc then S.grant.other else S.grant
    mcState := if f.mcBeat then .cycle else .idle
    mcAdr :=
      match S.mcState, f.mcBeat with
      | .idle, true => BitVec.ofNat 30 (f.b.adr.toNat % 2 ^ c.memAW)
      | .cycle, true => flatAdvance c S.mcAdr f.b.cti f.b.bte
      | _, false => S.mcAdr
    mem :=
      if decide (S.mcState = .cycle) && f.mcBeat && f.b.we && c.memWritable then
        S.mem.writeWord S.mcAdr.toNat f.b.sel f.b.datW
      else S.mem
    brDat :=
      if f.brBeat && !S.brAck && decide (S.brCnt ≠ 0#3) then
        let k := min S.brCnt.toNat 4 - 1
        (S.brDat &&& ~~~(0xFF#32 <<< (8 * k))) ||| (S.csrRdata.setWidth 32 <<< (8 * k))
      else S.brDat
    brAck := f.brBeat && !S.brAck && decide (4 ≤ S.brCnt.toNat)
    brCnt := if f.brBeat && !S.brAck && decide (S.brCnt.toNat ≤ 3) then S.brCnt + 1 else 0
    csrRdata := if f.rStb then f.v else 0
    divisor :=
      if f.wStb ∧ c.offCtrl ≤ f.naddr ∧ f.naddr < c.offCtrl + c.ctrlBytes then
        let j := f.naddr - c.offCtrl
        BitVec.ofNat 32
          (((S.divisor &&& ~~~(0xFF#32 <<< (8 * j))) ||| (f.wByte.setWidth 32 <<< (8 * j))).toNat
            % 2 ^ c.divisorWidth)
      else S.divisor
    rxFifo :=
      (if f.rxPop then S.rxFifo.tail else S.rxFifo)
        ++ (if f.rxPush then [BitVec.ofBool I.x.rxPerr ++ (BitVec.ofBool I.x.rxFerr ++ (BitVec.ofBool I.x.rxOvf ++ I.x.rxData))]
            else [])
    txFifo := (if f.txPull then S.txFifo.tail else S.txFifo) ++ (if f.txPush then [f.wByte] else [])
    rxVis := flatVis c.fifoMode S.rxVis (4 * t) (4 * t + 1) f.rxPush f.rxPop
    txVis := flatVis c.fifoMode S.txVis (4 * t + 2) (4 * t + 3) f.txPush f.txPull }

/-- `O` of R302. -/
def flatOut (c : Config) (t : Nat) (S : Elements) (I : Row) : Outputs :=
  let f := flatSignals c t S I
  let beat := f.b.cyc && f.b.stb
  let ack := (f.selMem && beat && decide (S.mcState = .cycle)) || (f.selCsr && beat && S.brAck)
  let err := beat && !f.selMem && !f.selCsr
  let dat := if f.selMem then S.mem.readWord S.mcAdr.toNat else if f.selCsr then S.brDat else 0
  { m0 := { ack := ack && decide (S.grant = .m0), err := err && decide (S.grant = .m0), datR := dat }
    m1 := { ack := ack && decide (S.grant = .m1), err := err && decide (S.grant = .m1), datR := dat }
    rxAck := I.x.rxRdy && f.rxWRdy
    txAck := f.txPull
    txData := if f.txRRdy then S.txFifo.headD (Free.txEntry t) else Free.txEntry t
    divisor := S.divisor }

end Sys2Proof.Machine
end

