-- ==== Sys2Proof/Machine/RefMaster.lean ====
section
/-! DEFINITION. The reference master (30_encoding.md R109 to R111): a well-behaved environment that executes a transaction
program and reacts to the fabric's responses, and the bench that runs two of them with the transceiver's events against
the fabric. It is no part of the fabric: it writes the script one row ahead. -/

namespace Sys2Proof.Machine

/-- The statements of a transaction program (R109). `Stmt.wf` holds of those that R109 admits; what the model does with the
others, and with a writing statement on m0, is its own choice (DESIGN CHOICE, log entry 22). -/
inductive Stmt where
  | rd (addr : BitVec 32) (sel : BitVec 4)
  | wr (addr : BitVec 32) (data : Word) (sel : BitVec 4)
  | rdb (addr : BitVec 32) (bte : BitVec 2) (n : Nat)
  | wrb (addr : BitVec 32) (bte : BitVec 2) (data : List Word)
  | idle (n : Nat)
deriving DecidableEq, Repr

/-- R109: "A byte address must be a multiple of 4", a burst has at least one beat, IDLE at least one clock cycle. -/
def Stmt.wf : Stmt → Bool
  | .rd addr _ | .wr addr _ _ => decide (addr.toNat % 4 = 0)
  | .rdb addr _ n => decide (addr.toNat % 4 = 0) && decide (1 ≤ n)
  | .wrb addr _ data => decide (addr.toNat % 4 = 0) && decide (1 ≤ data.length)
  | .idle n => decide (1 ≤ n)

/-- A statement that never writes: what the instruction port's program holds (R122 (g)). -/
def Stmt.readOnly : Stmt → Bool
  | .rd _ _ | .rdb _ _ _ | .idle _ => true
  | .wr _ _ _ | .wrb _ _ _ => false

/-- What a beat of a statement ended with. -/
inductive Result where
  | data (w : Word)
  | done
  | err
deriving DecidableEq, Repr

/-- A reference master: the statements not finished, how many acknowledges (clock cycles, for IDLE) the first one has had,
whether the WB.IDLE after a statement is due, and the results so far, the oldest first. -/
structure RefMaster where
  todo : List Stmt := []
  count : Nat := 0
  gap : Bool := false
  results : List Result := []
deriving DecidableEq, Repr

/-- The word address of a byte address (R100). R109 admits multiples of 4 only; of another address the model drops bits 1:0
(DESIGN CHOICE, log entry 22). -/
def wordAddress (addr : BitVec 32) : Adr := addr.extractLsb' 2 30

/-- CW of a burst's beat after `count` acknowledges of `n` (R110): cti 0b010, and 0b111 for the last beat. -/
def burstWord (we : Bool) (bte : BitVec 2) (count n : Nat) : BitVec 8 :=
  0b11#2 ++ (BitVec.ofBool we ++ ((if count + 1 < n then 0b010#3 else 0b111#3) ++ bte))

/-- What the master presents in a clock cycle (R110). A burst of no beats, which R109 excludes, presents one beat of cti 0b111
(data 0 for WRB), and the master of m0 presents a write where its program has one, which R110 with R122 (g) excludes
(DESIGN CHOICE, log entry 22). -/
def RefMaster.drive (r : RefMaster) : Bracket :=
  if r.gap then {}
  else
    match r.todo with
    | [] | .idle _ :: _ => {}
    | .rd addr sel :: _ => { cw := 0xC0, adr := wordAddress addr, sel := sel }
    | .wr addr data sel :: _ => { cw := 0xE0, adr := wordAddress addr, sel := sel, datW := data }
    | .rdb addr bte n :: _ => { cw := burstWord false bte r.count n, adr := wordAddress addr, sel := 0xF }
    | .wrb addr bte data :: _ =>
      { cw := burstWord true bte r.count data.length, adr := wordAddress addr, sel := 0xF
        datW := data.getD r.count 0 }

/-- A beat of an `n`-beat statement was answered: the statement goes on, or ends and is followed by one WB.IDLE (R110). -/
def RefMaster.answered (r : RefMaster) (rest : List Stmt) (n : Nat) (resp : Response) (ok : Result) : RefMaster :=
  if resp.err then { todo := rest, count := 0, gap := true, results := r.results ++ [.err] }
  else if resp.ack then
    if r.count + 1 < n then { r with count := r.count + 1, results := r.results ++ [ok] }
    else { todo := rest, count := 0, gap := true, results := r.results ++ [ok] }
  else r

/-- The master after a clock cycle in which it got `resp` (R110). IDLE 0 and a burst of no beats, which R109 excludes, end like
IDLE 1 and a burst of one beat (DESIGN CHOICE, log entry 22). -/
def RefMaster.observe (r : RefMaster) (resp : Response) : RefMaster :=
  if r.gap then { r with gap := false }
  else
    match r.todo with
    | [] => r
    | .idle n :: rest => if r.count + 1 < n then { r with count := r.count + 1 } else { r with todo := rest, count := 0 }
    | .rd _ _ :: rest => r.answered rest 1 resp (.data resp.datR)
    | .wr _ _ _ :: rest => r.answered rest 1 resp .done
    | .rdb _ _ n :: rest => r.answered rest n resp (.data resp.datR)
    | .wrb _ _ data :: rest => r.answered rest data.length resp .done

/-- The transceiver's events (R111). -/
inductive Event where
  | rx (data : Byte) (ovf ferr perr : Bool)
  | txrdy
deriving DecidableEq, Repr

/-- One event put on the transceiver's inputs. -/
def Event.onto (x : Xcvr) : Event → Xcvr
  | .rx data ovf ferr perr => { x with rxRdy := true, rxData := data, rxOvf := ovf, rxFerr := ferr, rxPerr := perr }
  | .txrdy => { x with txRdy := true }

/-- The transceiver's inputs in clock cycle `t` (R111). -/
def eventsAt (events : List (Nat × Event)) (t : Nat) : Xcvr :=
  (events.filter (fun e => e.1 == t)).foldl (fun x e => e.2.onto x) {}

/-- The fabric with the two reference masters and the transceiver's events. Nothing keeps writing statements out of m0's list here:
`Bench.wf` says that its programs are R109's and that m0's never writes (log entry 22). -/
structure Bench where
  fab : State
  m0 : RefMaster := {}
  m1 : RefMaster := {}
  events : List (Nat × Event) := []
deriving DecidableEq, Repr

/-- The bench runs transaction programs (R109), and m0's, the instruction port's, never writes (R110, R122 (g)). -/
def Bench.wf (b : Bench) : Bool :=
  b.m0.todo.all Stmt.wf && b.m1.todo.all Stmt.wf && b.m0.todo.all Stmt.readOnly

/-- The row the environment supplies in the next clock cycle. -/
def Bench.row (b : Bench) : Row :=
  { m0 := b.m0.drive, m1 := b.m1.drive, x := eventsAt b.events b.fab.tick }

/-- One clock cycle of fabric and environment: each chooses from the outputs of earlier clock cycles only (R304). A bench
whose fabric does not step stays. -/
def Bench.step (b : Bench) : Bench :=
  match Machine.step { b.fab with script := [b.row] } with
  | .next t => { b with fab := t, m0 := b.m0.observe t.out.m0, m1 := b.m1.observe t.out.m1 }
  | .fault _ => b
  | .refused _ => b

/-- The script that the bench's first `n` clock cycles make (R108: the encoding of the program). -/
def Bench.script : Nat → Bench → List Row
  | 0, _ => []
  | n + 1, b => b.row :: Bench.script n b.step

end Sys2Proof.Machine
end

