-- ==== Sys2Proof/Safety.lean ====
section
/-! DEFINITION. The terms statements are written in: the invariants of reachable states (10_state.md R44), the quiescent
fabric (46_top.md R305), what a well-behaved master keeps (40_bus_ops.md R122), runs of several clock cycles, and the
beats of the 20 strobed WB operations with the cycle type each presents. -/

namespace Sys2Proof.Machine

/-- The counters of one FIFO of `len` entries and depth `depth` (43_uart_fifo.md R226): in lagging mode no more entries and
slots are hidden than there are; in exact mode the counters do not exist (R225) and stay 0. -/
def Vis.ok (mode : FifoMode) (depth len : Nat) (v : Vis) : Prop :=
  match mode with
  | .exactFlags => v.hidW = 0 ∧ v.hidR = 0
  | .laggingFlags => v.hidW ≤ len ∧ len + v.hidR ≤ depth

/-- The invariants of R44 (`grant` < NMASTER holds by its type), with what R7, R25 and R226 add: the configuration is legal,
the memory is in canonical form inside the array, the counters are within their bounds. -/
structure State.Inv (s : State) : Prop where
  legal : s.cfg.legal = true
  cnt : s.el.brCnt.toNat ≤ 4
  ack : s.el.brAck = true → s.el.brCnt = 0#3
  rxLen : s.el.rxFifo.length ≤ s.cfg.rxDepth
  txLen : s.el.txFifo.length ≤ s.cfg.txDepth
  adr : s.el.mcAdr.toNat < s.cfg.memWords
  divisor : s.el.divisor.toNat < 2 ^ s.cfg.divisorWidth
  memForm : s.el.mem.wf = true
  memSize : ∀ cell ∈ s.el.mem, cell.1 < s.cfg.memSize
  rxVis : s.el.rxVis.ok s.cfg.fifoMode s.cfg.rxDepth s.el.rxFifo.length
  txVis : s.el.txVis.ok s.cfg.fifoMode s.cfg.txDepth s.el.txFifo.length

/-- The fabric is quiescent under the inputs `row` (R305). -/
def State.quiescent (s : State) (row : Row) : Prop :=
  s.el.mcState = .idle ∧ s.el.brCnt = 0#3 ∧ s.el.brAck = false ∧ s.el.csrRdata = 0
    ∧ (portRequest row .m0).cyc = false ∧ (portRequest row .m1).cyc = false

/-- A run of the reference masters is complete (R305). -/
def Bench.complete (b : Bench) : Prop :=
  b.m0.todo = [] ∧ b.m1.todo = [] ∧ b.m0.gap = false ∧ b.m1.gap = false ∧ b.fab.quiescent b.row

/-- R122 (a): `stb` only with `cyc`. -/
def strobeNeedsCycle (r : Request) : Prop := r.stb = true → r.cyc = true

/-- R122 (b), (f): a beat without a response is presented unchanged in the next clock cycle. -/
def holdsBeat (now : Request) (resp : Response) (next : Request) : Prop :=
  strobed now = true → resp.ack = false → resp.err = false → next = now

/-- R122 (g): the instruction port never writes. -/
def portNeverWrites (r : Request) : Prop := r.we = false

/-- The fields of State that no operation writes. -/
def sameContext (s t : State) : Prop :=
  t.cfg = s.cfg ∧ t.script = s.script ∧ t.inp = s.inp ∧ t.tick = s.tick

/-- `n` clock cycles, or the first stop (Host.Core.run). -/
def runFor (n : Nat) (s : State) : Host.Outcome State Fault Refusal :=
  match n with
  | 0 => .next s
  | n + 1 =>
    match step s with
    | .next t => runFor n t
    | .fault r => .fault r
    | .refused r => .refused r

/-- The ten strobed reads of a port with the `cti` and `bte` each presents (R97). -/
def readBeats (m : Master) (adr : Adr) (sel : BitVec 4) : List (Instr × BitVec 3 × BitVec 2) :=
  [(.wbRdClassic m adr sel, 0b000#3, 0b00#2), (.wbRdConst m adr sel, 0b001#3, 0b00#2),
   (.wbRdIncrLinear m adr sel, 0b010#3, 0b00#2), (.wbRdIncrWrap4 m adr sel, 0b010#3, 0b01#2),
   (.wbRdIncrWrap8 m adr sel, 0b010#3, 0b10#2), (.wbRdIncrWrap16 m adr sel, 0b010#3, 0b11#2),
   (.wbRdRsvd3 m adr sel, 0b011#3, 0b00#2), (.wbRdRsvd45 m adr sel, 0b100#3, 0b00#2),
   (.wbRdRsvd6 m adr sel, 0b110#3, 0b00#2), (.wbRdEob m adr sel, 0b111#3, 0b00#2)]

/-- The ten strobed writes of a port with the `cti` and `bte` each presents (R97). -/
def writeBeats (m : Master) (adr : Adr) (sel : BitVec 4) (datW : Word) : List (Instr × BitVec 3 × BitVec 2) :=
  [(.wbWrClassic m adr sel datW, 0b000#3, 0b00#2), (.wbWrConst m adr sel datW, 0b001#3, 0b00#2),
   (.wbWrIncrLinear m adr sel datW, 0b010#3, 0b00#2), (.wbWrIncrWrap4 m adr sel datW, 0b010#3, 0b01#2),
   (.wbWrIncrWrap8 m adr sel datW, 0b010#3, 0b10#2), (.wbWrIncrWrap16 m adr sel datW, 0b010#3, 0b11#2),
   (.wbWrRsvd3 m adr sel datW, 0b011#3, 0b00#2), (.wbWrRsvd45 m adr sel datW, 0b100#3, 0b00#2),
   (.wbWrRsvd6 m adr sel datW, 0b110#3, 0b00#2), (.wbWrEob m adr sel datW, 0b111#3, 0b00#2)]

/-- The memory array's byte at a byte offset after a word write: lane k of the word at index `idx` where `sel` selects it
(00_scope.md R10). -/
def mergedByte (m : Memory) (idx : Nat) (sel : BitVec 4) (v : Word) (a : Nat) : Byte :=
  if a / 4 = idx ∧ sel.getLsbD (a % 4) then v.extractLsb' (8 * (a % 4)) 8 else m.read a

/-! The key table of spec/opcode_table.json (30_encoding.md R97, R103, R104), but the rows of formats REG and DEC, whose keys
hold addresses. -/

/-- One row: the key's format, the FIFO whose side of the transceiver it belongs to (format UX), match, mask and the
operation with its operands. -/
structure KeyRow where
  fmt : Format
  side : Option FifoId := none
  val : Nat
  mask : Nat
  op : Args → Instr

/-- `key & mask == match` (R104), on the side the row belongs to. -/
def KeyRow.selects (r : KeyRow) (fmt : Format) (f : FifoId) (key : Nat) : Bool :=
  decide (r.fmt = fmt) && (decide (r.side = none) || decide (r.side = some f)) && decide (key &&& r.mask = r.val)

/-- The 22 WB rows. -/
def wbKeyRows : List KeyRow :=
  [{ fmt := .wb, val := 0x00, mask := 0x80, op := fun a => .wbIdle a.port a.adr },
   { fmt := .wb, val := 0x80, mask := 0xC0, op := fun a => .wbWait a.port a.adr },
   { fmt := .wb, val := 0xC0, mask := 0xFC, op := fun a => .wbRdClassic a.port a.adr a.sel },
   { fmt := .wb, val := 0xE0, mask := 0xFC, op := fun a => .wbWrClassic a.port a.adr a.sel a.datW },
   { fmt := .wb, val := 0xC4, mask := 0xFC, op := fun a => .wbRdConst a.port a.adr a.sel },
   { fmt := .wb, val := 0xE4, mask := 0xFC, op := fun a => .wbWrConst a.port a.adr a.sel a.datW },
   { fmt := .wb, val := 0xC8, mask := 0xFF, op := fun a => .wbRdIncrLinear a.port a.adr a.sel },
   { fmt := .wb, val := 0xC9, mask := 0xFF, op := fun a => .wbRdIncrWrap4 a.port a.adr a.sel },
   { fmt := .wb, val := 0xCA, mask := 0xFF, op := fun a => .wbRdIncrWrap8 a.port a.adr a.sel },
   { fmt := .wb, val := 0xCB, mask := 0xFF, op := fun a => .wbRdIncrWrap16 a.port a.adr a.sel },
   { fmt := .wb, val := 0xE8, mask := 0xFF, op := fun a => .wbWrIncrLinear a.port a.adr a.sel a.datW },
   { fmt := .wb, val := 0xE9, mask := 0xFF, op := fun a => .wbWrIncrWrap4 a.port a.adr a.sel a.datW },
   { fmt := .wb, val := 0xEA, mask := 0xFF, op := fun a => .wbWrIncrWrap8 a.port a.adr a.sel a.datW },
   { fmt := .wb, val := 0xEB, mask := 0xFF, op := fun a => .wbWrIncrWrap16 a.port a.adr a.sel a.datW },
   { fmt := .wb, val := 0xCC, mask := 0xFC, op := fun a => .wbRdRsvd3 a.port a.adr a.sel },
   { fmt := .wb, val := 0xEC, mask := 0xFC, op := fun a => .wbWrRsvd3 a.port a.adr a.sel a.datW },
   { fmt := .wb, val := 0xD0, mask := 0xF8, op := fun a => .wbRdRsvd45 a.port a.adr a.sel },
   { fmt := .wb, val := 0xF0, mask := 0xF8, op := fun a => .wbWrRsvd45 a.port a.adr a.sel a.datW },
   { fmt := .wb, val := 0xD8, mask := 0xFC, op := fun a => .wbRdRsvd6 a.port a.adr a.sel },
   { fmt := .wb, val := 0xF8, mask := 0xFC, op := fun a => .wbWrRsvd6 a.port a.adr a.sel a.datW },
   { fmt := .wb, val := 0xDC, mask := 0xFC, op := fun a => .wbRdEob a.port a.adr a.sel },
   { fmt := .wb, val := 0xFC, mask := 0xFC, op := fun a => .wbWrEob a.port a.adr a.sel a.datW }]

/-- The rows of the formats MC, ADV, BR, CSR, FIFO, UX and ARB; TX.IDLE's one row stands as two, since XT[0] is an operand of
`txIdle`. -/
def componentKeyRows : List KeyRow :=
  [{ fmt := .mc, val := 0x0, mask := 0x3, op := fun _ => .mcIdle },
   { fmt := .mc, val := 0x1, mask := 0x3, op := fun a => .mcLatch a.adr },
   { fmt := .mc, val := 0x2, mask := 0x3, op := fun _ => .mcRelease },
   { fmt := .mc, val := 0x3, mask := 0x3, op := fun a => .mcBeat a.we a.sel a.datW a.cti a.bte },
   { fmt := .adv, val := 0x0, mask := 0x3, op := fun _ => .advLinear },
   { fmt := .adv, val := 0x1, mask := 0x3, op := fun _ => .advWrap4 },
   { fmt := .adv, val := 0x2, mask := 0x3, op := fun _ => .advWrap8 },
   { fmt := .adv, val := 0x3, mask := 0x3, op := fun _ => .advWrap16 },
   { fmt := .br, val := 0x00, mask := 0x10, op := fun _ => .brIdle },
   { fmt := .br, val := 0x10, mask := 0x1F, op := fun a => .brLane0 a.adr a.sel a.we a.datW },
   { fmt := .br, val := 0x11, mask := 0x1F, op := fun a => .brLane1 a.adr a.sel a.we a.datW },
   { fmt := .br, val := 0x12, mask := 0x1F, op := fun a => .brLane2 a.adr a.sel a.we a.datW },
   { fmt := .br, val := 0x13, mask := 0x1F, op := fun a => .brLane3 a.adr a.sel a.we a.datW },
   { fmt := .br, val := 0x14, mask := 0x1C, op := fun _ => .brCollect },
   { fmt := .br, val := 0x18, mask := 0x18, op := fun _ => .brAck },
   { fmt := .csr, val := 0x0, mask := 0x3, op := fun _ => .csrNop },
   { fmt := .csr, val := 0x2, mask := 0x3, op := fun a => .csrRd a.csrAddr },
   { fmt := .csr, val := 0x1, mask := 0x3, op := fun a => .csrWr a.csrAddr a.csrWData },
   { fmt := .fifo, val := 0x0, mask := 0x3, op := fun a => .fifoNop a.fifo },
   { fmt := .fifo, val := 0x2, mask := 0x3, op := fun a => .fifoPush a.fifo a.wData },
   { fmt := .fifo, val := 0x1, mask := 0x3, op := fun a => .fifoPop a.fifo },
   { fmt := .fifo, val := 0x3, mask := 0x3, op := fun a => .fifoPushPop a.fifo a.wData },
   { fmt := .ux, side := some .rx, val := 0x0, mask := 0x2, op := fun _ => .rxIdle },
   { fmt := .ux, side := some .rx, val := 0x3, mask := 0x3, op := fun a => .rxAccept a.rxData a.rxOvf a.rxFerr a.rxPerr },
   { fmt := .ux, side := some .rx, val := 0x2, mask := 0x3, op := fun _ => .rxRefuse },
   { fmt := .ux, side := some .tx, val := 0x0, mask := 0x3, op := fun _ => .txIdle false },
   { fmt := .ux, side := some .tx, val := 0x1, mask := 0x3, op := fun _ => .txIdle true },
   { fmt := .ux, side := some .tx, val := 0x3, mask := 0x3, op := fun _ => .txPull },
   { fmt := .ux, side := some .tx, val := 0x2, mask := 0x3, op := fun _ => .txEmpty },
   { fmt := .arb, val := 0x1, mask := 0x5, op := fun _ => .arbHold0 },
   { fmt := .arb, val := 0x6, mask := 0x6, op := fun _ => .arbHold1 },
   { fmt := .arb, val := 0x2, mask := 0x7, op := fun _ => .arbSwitch01 },
   { fmt := .arb, val := 0x5, mask := 0x7, op := fun _ => .arbSwitch10 },
   { fmt := .arb, val := 0x0, mask := 0x7, op := fun _ => .arbPark0 },
   { fmt := .arb, val := 0x4, mask := 0x7, op := fun _ => .arbPark1 }]

/-- Both lists. -/
def keyRows : List KeyRow := wbKeyRows ++ componentKeyRows

/-! Operations by family. -/

/-- The 22 WB operations of a port. -/
def wbOps (m : Master) (adr : Adr) (sel : BitVec 4) (datW : Word) : List Instr :=
  [.wbIdle m adr, .wbWait m adr] ++ (readBeats m adr sel).map (·.1) ++ (writeBeats m adr sel datW).map (·.1)

/-- The CSR operation that lane `k` of a Bridge beat performs (R192, R204). -/
def narrowOp (c : Config) (k : Nat) (adr : Adr) (sel : BitVec 4) (we : Bool) (datW : Word) : Instr :=
  if sel.getLsbD k then
    if we then .csrWr (narrowAddr c adr k) (lane datW k) else .csrRd (narrowAddr c adr k)
  else .csrNop

/-- The narrow bus in a clock cycle whose lane is `k` and in which the Bridge is `active` or not (R192). -/
def narrowBeat (c : Config) (active : Bool) (k : Nat) (b : Request) : NarrowBus where
  addr := narrowAddr c b.adr k
  rStb := active && b.sel.getLsbD k && !b.we
  wStb := active && b.sel.getLsbD k && b.we
  wData := lane b.datW k

/-- What a WB operation's request asks of the memory: the word write it commits in state `s`, if it commits one: the word
index, the lanes, the data (R162, R166). -/
def portStore (s : State) (m : Master) (adr : Adr) (sel : BitVec 4) (datW : Word) : Option (Nat × BitVec 4 × Word) :=
  if s.el.grant = m ∧ selMem s.cfg adr = true ∧ s.el.mcState = .cycle ∧ s.cfg.memWritable = true then
    some (s.el.mcAdr.toNat, sel, datW)
  else none

/-- The word write an operation commits in state `s`, if it commits one. -/
def storeTarget (s : State) : Instr → Option (Nat × BitVec 4 × Word)
  | .mcBeat we sel datW _ _ =>
    if we = true ∧ s.cfg.memWritable = true then some (s.el.mcAdr.toNat, sel, datW) else none
  | .decMem d =>
    if d.cyc = true ∧ d.stb = true ∧ d.we = true ∧ s.el.mcState = .cycle ∧ s.cfg.memWritable = true then
      some (s.el.mcAdr.toNat, d.sel, d.datW)
    else none
  | .wbWrClassic m adr sel datW | .wbWrConst m adr sel datW | .wbWrIncrLinear m adr sel datW
  | .wbWrIncrWrap4 m adr sel datW | .wbWrIncrWrap8 m adr sel datW | .wbWrIncrWrap16 m adr sel datW
  | .wbWrRsvd3 m adr sel datW | .wbWrRsvd45 m adr sel datW | .wbWrRsvd6 m adr sel datW | .wbWrEob m adr sel datW =>
    portStore s m adr sel datW
  | _ => none

/-- `n` times the same operation. -/
def repeatOp (n : Nat) (i : Instr) (s : State) : Host.Outcome State Fault Refusal :=
  match n with
  | 0 => .next s
  | n + 1 => andThen (exec i s) (repeatOp n i)

/-- The counters a FIFO's clock cycle may leave (R226): in lagging mode some hidden entries and slots become visible, at least one
where their time is up, then the new ones are hidden; without a reveal the time left goes down (log entry 7). -/
def Vis.after (mode : FifoMode) (v : Vis) (doWrite doRead : Bool) (v' : Vis) : Prop :=
  match mode with
  | .exactFlags => v' = v
  | .laggingFlags =>
    ∃ revW revR, revW ≤ v.hidW ∧ revR ≤ v.hidR ∧
      (v.dueW = 0 → 0 < v.hidW → 0 < revW) ∧ (v.dueR = 0 → 0 < v.hidR → 0 < revR) ∧
      v'.hidW = v.hidW - revW + doWrite.toNat ∧ v'.hidR = v.hidR - revR + doRead.toNat ∧
      (0 < v.hidW → revW = 0 → v'.dueW + 1 = v.dueW) ∧ (0 < v.hidR → revR = 0 → v'.dueR + 1 = v.dueR)

/-! Runs. -/

/-- The row of inputs of the `k`-th clock cycle from state `s`. -/
def State.rowAt (s : State) (k : Nat) : Row := s.script.getD k {}

/-- The request of port `m` in the `k`-th clock cycle from state `s`. -/
def State.requestAt (s : State) (m : Master) (k : Nat) : Request := portRequest (s.rowAt k) m

/-- The entry that a write of TX_DATA pushes in the next clock cycle, if one does (R245, R303: `tx_push`). -/
def State.txPushed (s : State) : List TxEntry :=
  if s.load.writeStrobe && decide (s.load.narrowNow.toNat = s.cfg.offTxData) && s.txWriteReady then
    [lane s.load.downstream.datW s.load.laneNow]
  else []

/-- The bytes pushed into the transmit FIFO in `n` clock cycles, in order. -/
def txWritten : Nat → State → List TxEntry
  | 0, _ => []
  | n + 1, s =>
    s.txPushed ++ (match step s with
      | .next t => txWritten n t
      | .fault _ => []
      | .refused _ => [])

/-- The bytes handed to the transceiver in `n` clock cycles: `tx_data` wherever `tx_ack` is 1 (R239). -/
def txSent : Nat → State → List TxEntry
  | 0, _ => []
  | n + 1, s =>
    match step s with
    | .next t => (if t.out.txAck then [t.out.txData] else []) ++ txSent n t
    | .fault _ => []
    | .refused _ => []

/-- The entries the fabric took from the transceiver in `n` clock cycles: the offered byte with its flags wherever `rx_ack` is
1 (R239, R245). -/
def rxTaken : Nat → State → List RxEntry
  | 0, _ => []
  | n + 1, s =>
    match step s with
    | .next t =>
      (if t.out.rxAck then [rxEntry t.inp.x.rxData t.inp.x.rxOvf t.inp.x.rxFerr t.inp.x.rxPerr] else []) ++ rxTaken n t
    | .fault _ => []
    | .refused _ => []

/-- The entry that a read of RX_DATA pops in the next clock cycle, if one does (R245, R303: `rx_pop`). -/
def State.rxPopped (s : State) : List RxEntry :=
  if s.load.readStrobe && decide (s.load.narrowNow.toNat = s.cfg.offRxData) && s.rxReadReady then
    s.el.rxFifo.take 1
  else []

/-- The entries that reads of RX_DATA popped in `n` clock cycles, in order. -/
def rxRead : Nat → State → List RxEntry
  | 0, _ => []
  | n + 1, s =>
    s.rxPopped ++ (match step s with
      | .next t => rxRead n t
      | .fault _ => []
      | .refused _ => [])

/-- The word index of the beat acknowledged in clock cycle `j + 1` of a burst that port `m` begins in the next clock cycle: the
address of the first clock cycle, advanced by the cycle type of each acknowledged beat before it (R165, R175). -/
def State.burstIndex (s : State) (m : Master) : Nat → Index
  | 0 => BitVec.ofNat 30 ((s.requestAt m 0).adr.toNat % 2 ^ s.cfg.memAW)
  | j + 1 => flatAdvance s.cfg (s.burstIndex m j) (s.requestAt m (j + 1)).cti (s.requestAt m (j + 1)).bte

end Sys2Proof.Machine
end

