-- ==== Sys2Proof/Certificates/Slice0/Obligations.lean ====
section
/-! DEFINITION. The statements for the provers. Each docstring names the rule of the spec the statement formalises, or says
that it is derived. `sameContext` says that an operation leaves the configuration, the inputs and the clock-cycle number
alone; a record update of `s.el` is the frame: every element it does not name is unchanged, memory included. -/

open Sys2Proof Sys2Proof.Machine

/-! ### Encoding -/

/-- Every well-formed operation is read back from its word, operands and all. Derived from R97, R103, R104. -/
def Obligations.DecodeInvertsEncode : Prop :=
  ∀ (c : Config) (i : Instr), c.legal = true → i.wf c = true → decode c (encode c i) = .ok i

/-- What the decoder accepts is an operation of the fabric: every operand in its range. Derived from R39, R98, R103. -/
def Obligations.DecodedOperationsAreWellFormed : Prop :=
  ∀ (c : Config) (w : OpWord) (i : Instr), c.legal = true → decode c w = .ok i → i.wf c = true

/-- R97: `key & mask == match` selects the 22 WB operations, and every value of CW is selected by exactly one row. -/
def Obligations.ControlWordSelectsOneOfTwentyTwoOperations : Prop :=
  wbKeyRows.length = 22 ∧
  (∀ (cw : BitVec 8), (wbKeyRows.filter (fun r => r.selects .wb .rx cw.toNat)).length = 1) ∧
  ∀ (c : Config) (cw : BitVec 8) (a : Args), ∀ r ∈ wbKeyRows, r.selects .wb a.fifo cw.toNat = true →
    decode c ⟨.wb, cw.toNat, a⟩ = .ok (r.op a)

/-- The keys of MC, ADV, BR, CSR, FIFO, UX and ARB select the operations of R103, whatever the operand signals, as long as
those are in range (CSR: an address of the region, FIFO: an entry of the FIFO's width). Derived from R103. -/
def Obligations.ComponentKeysSelectTheirOperations : Prop :=
  ∀ (c : Config) (key : Nat) (a : Args), ∀ r ∈ componentKeyRows,
    key < 2 ^ r.fmt.keyWidth c → r.selects r.fmt a.fifo key = true → (r.op a).wf c = true →
    decode c ⟨r.fmt, key, a⟩ = .ok (r.op a)

/-- R103, format REG for any legal offsets: the key is the write strobe and the narrow address. Derived from R35, R103. -/
def Obligations.RegisterKeysSelectTheirOperations : Prop :=
  ∀ (c : Config) (a : Args), c.legal = true →
    (∀ j : BitVec 2, j.toNat < c.ctrlBytes →
      decode c ⟨.reg, c.offCtrl + j.toNat, a⟩ = .ok (.ctrlRd j) ∧
      decode c ⟨.reg, 2 ^ c.csrAW + (c.offCtrl + j.toNat), a⟩ = .ok (.ctrlWr j a.csrWData)) ∧
    decode c ⟨.reg, c.offRxInfo, a⟩ = .ok .rxInfoRd ∧
    decode c ⟨.reg, c.offRxData, a⟩ = .ok .rxDataRd ∧
    decode c ⟨.reg, c.offTxInfo, a⟩ = .ok .txInfoRd ∧
    decode c ⟨.reg, 2 ^ c.csrAW + c.offTxData, a⟩ = .ok (.txDataWr a.csrWData) ∧
    ∀ addr : Nat, addr < c.csrSize →
      ((addr < c.offCtrl ∨ c.offCtrl + c.ctrlBytes ≤ addr) → addr ≠ c.offRxInfo → addr ≠ c.offRxData →
        addr ≠ c.offTxInfo → decode c ⟨.reg, addr, a⟩ = .ok (.regRdNone (BitVec.ofNat 32 addr))) ∧
      ((addr < c.offCtrl ∨ c.offCtrl + c.ctrlBytes ≤ addr) → addr ≠ c.offTxData →
        decode c ⟨.reg, 2 ^ c.csrAW + addr, a⟩ = .ok (.regWrNone (BitVec.ofNat 32 addr) a.csrWData))

/-- Words written out from R93, R97, R103: the decoder reads them as the spec names them (REF). Derived. -/
def Obligations.SpecWordsDecodeAsNamed : Prop :=
  decode Config.ref ⟨.wb, 0b11001001, { port := .m1, adr := 6, sel := 0xF }⟩ = .ok (.wbRdIncrWrap4 .m1 6 0xF) ∧
  decode Config.ref ⟨.wb, 0b11110100, { adr := 5, sel := 3, datW := 9 }⟩ = .ok (.wbWrRsvd45 .m0 5 3 9) ∧
  decode Config.ref ⟨.mc, 0b01, { adr := 5 }⟩ = .ok (.mcLatch 5) ∧
  decode Config.ref ⟨.br, 0b10010, { adr := 0x20000001, sel := 4 }⟩ = .ok (.brLane2 0x20000001 4 false 0) ∧
  decode Config.ref ⟨.reg, 0b100001, { csrWData := 0x12 }⟩ = .ok (.ctrlWr 1 0x12) ∧
  decode Config.ref ⟨.reg, 0b010000, {}⟩ = .ok (.regRdNone 0x10) ∧
  decode Config.ref ⟨.ux, 0b10, { fifo := .rx }⟩ = .ok .rxRefuse ∧
  decode Config.ref ⟨.arb, 0b101, {}⟩ = .ok .arbSwitch10

/-- The only words refused are those that no key of the fabric can be: too wide a key, both strobes (R105 (c)), an address
outside the region (for a read and for a write), too wide an entry for `tx_fifo` (with or without a pop); and each of them is
refused by that name. The refusals themselves are the model's
choice (log entries 11, 18). Derived from R90, R105. -/
def Obligations.DecoderRefusesByName : Prop :=
  (∀ (c : Config) (w : OpWord) (e : DecodeError), decode c w = .error e →
    (2 ^ w.fmt.keyWidth c ≤ w.key ∧ e = .keyTooWide w.fmt) ∨
    (w.fmt = .csr ∧ w.key = 0b11 ∧ e = .bothStrobes) ∨
    (w.fmt = .csr ∧ (w.key = 0b10 ∨ w.key = 0b01) ∧ c.csrSize ≤ w.args.csrAddr.toNat ∧ e = .outsideRegion) ∨
    (w.fmt = .fifo ∧ (w.key = 0b10 ∨ w.key = 0b11) ∧ w.args.fifo = .tx ∧ 256 ≤ w.args.wData.toNat ∧ e = .entryTooWide)) ∧
  (∀ (c : Config) (a : Args), decode c ⟨.csr, 0b11, a⟩ = .error .bothStrobes) ∧
  (∀ (c : Config) (a : Args), c.csrSize ≤ a.csrAddr.toNat →
    decode c ⟨.csr, 0b10, a⟩ = .error .outsideRegion ∧ decode c ⟨.csr, 0b01, a⟩ = .error .outsideRegion) ∧
  (∀ (c : Config) (a : Args), a.fifo = .tx → 256 ≤ a.wData.toNat →
    decode c ⟨.fifo, 0b10, a⟩ = .error .entryTooWide ∧ decode c ⟨.fifo, 0b11, a⟩ = .error .entryTooWide) ∧
  (∀ (c : Config) (f : Format) (key : Nat) (a : Args), 2 ^ f.keyWidth c ≤ key → decode c ⟨f, key, a⟩ = .error (.keyTooWide f))

/-! ### The clock cycle -/

/-- A step runs the decoded operations: with the row of inputs loaded, the waiting port's, the granted port's, the receive
side's and the transmit side's operation, each decoded from its key as it stands at the start of the clock cycle, in this
order, then the edge: each FIFO's reveal and the next clock-cycle number. Derived from R90, R303 (log entry 1). -/
def Obligations.StepRunsTheDecodedOperations : Prop :=
  ∀ (s : State) (waiting granted rx tx : Instr), s.cfg.legal = true →
    let g := s.el.grant
    let row := s.nextRow
    decode s.cfg ⟨.wb, (row.bracket g.other).cw.toNat,
      wbArgs g.other (row.bracket g.other).adr (row.bracket g.other).sel (row.bracket g.other).datW⟩ = .ok waiting →
    decode s.cfg ⟨.wb, (row.bracket g).cw.toNat,
      wbArgs g (row.bracket g).adr (row.bracket g).sel (row.bracket g).datW⟩ = .ok granted →
    decode s.cfg ⟨.ux, 2 * row.x.rxRdy.toNat + s.rxWriteReady.toNat,
      { fifo := .rx, rxData := row.x.rxData, rxOvf := row.x.rxOvf, rxFerr := row.x.rxFerr, rxPerr := row.x.rxPerr }⟩
      = .ok rx →
    decode s.cfg ⟨.ux, 2 * row.x.txRdy.toNat + s.txReadReady.toNat, { fifo := .tx }⟩ = .ok tx →
    step s =
      andThen (exec waiting s.load) fun a =>
      andThen (exec granted a) fun b =>
      andThen (exec rx b) fun d =>
      andThen (exec tx d) fun e =>
      .next { (e.rxReveal s.el.rxVis).txReveal s.el.txVis with tick := e.tick + 1 }

/-- R303 and R302: one step is the flattened step function, every element and every output. In lagging mode with the counters
of R226; the free values, the choices and the time a reveal may wait are those of log entries 6 and 7, whatever they are. -/
def Obligations.StepIsTheFlatStepFunction : Prop :=
  ∀ s : State, s.cfg.legal = true →
    ∃ t, step s = .next t ∧
      t.el = flatNext s.cfg s.tick s.el s.nextRow ∧ t.out = flatOut s.cfg s.tick s.el s.nextRow ∧
      t.cfg = s.cfg ∧ t.script = s.script.tail ∧ t.inp = s.nextRow ∧ t.tick = s.tick + 1

/-- R90: in one clock cycle the Memory Controller, the Bridge (with the narrow bus and the Register File), the Arbiter and
each FIFO perform one operation each, and each element's new value is the one its owner's operation, run alone from the
start of the clock cycle, gives it. Derived from R20, R84, R90. -/
def Obligations.StepPerformsOneOperationOfEachComponent : Prop :=
  ∀ s : State, s.cfg.legal = true →
    ∃ t mc br arb rx tx,
      step s = .next t ∧ exec s.load.mcOp s.load = .next mc ∧ exec s.load.brOp s.load = .next br ∧
      exec s.load.arbOp s.load = .next arb ∧ exec s.load.rxFifoOp s.load = .next rx ∧
      exec s.load.txFifoOp s.load = .next tx ∧
      t.el =
        { grant := arb.el.grant
          mcState := mc.el.mcState
          mcAdr := mc.el.mcAdr
          mem := mc.el.mem
          brDat := br.el.brDat
          brAck := br.el.brAck
          brCnt := br.el.brCnt
          csrRdata := br.el.csrRdata
          divisor := br.el.divisor
          rxFifo := rx.el.rxFifo
          txFifo := tx.el.txFifo
          rxVis := rx.el.rxVis
          txVis := tx.el.txVis }

/-- R323: for an illegal configuration no fabric runs; the step refuses, by name, and only then. R7: a configuration is legal
exactly if each check holds: width and granularity, sizes powers of two, bases aligned, ranges apart, registers inside the
region and apart, divisor width, depths; and, by the model's reading of R6 (log entry 4), the last six bounds. Derived. -/
def Obligations.IllegalConfigurationIsRefused : Prop :=
  (∀ s : State, step s = .refused .illegalConfiguration ↔ s.cfg.legal = false) ∧
  ∀ c : Config, c.legal = true ↔
    c.dataWidth = 32 ∧ c.granularity = 8 ∧ (∃ n, c.memSize = 2 ^ n) ∧ (∃ n, c.csrSize = 2 ^ n) ∧
    c.memSize ∣ c.memBase ∧ c.csrSize ∣ c.csrBase ∧
    (∀ a : Nat, ¬ ((c.memBase ≤ a ∧ a < c.memBase + c.memSize) ∧ (c.csrBase ≤ a ∧ a < c.csrBase + c.csrSize))) ∧
    (∀ r ∈ c.registers, r.1 + r.2 ≤ c.csrSize) ∧
    c.registers.Pairwise (fun r q => ∀ a : Nat, ¬ ((r.1 ≤ a ∧ a < r.1 + r.2) ∧ (q.1 ≤ a ∧ a < q.1 + q.2))) ∧
    1 ≤ c.divisorWidth ∧ c.divisorWidth ≤ 32 ∧ 1 ≤ c.rxDepth ∧ 1 ≤ c.txDepth ∧
    4 ≤ c.memSize ∧ 32 ≤ c.csrSize ∧ c.memBase + c.memSize ≤ 2 ^ 32 ∧ c.csrBase + c.csrSize ≤ 2 ^ 32 ∧
    c.memInit.length ≤ c.memSize / 4 ∧ c.divisorReset.toNat < 2 ^ c.divisorWidth

/-- R304, R305: "always enabled, never blocked": a legal fabric runs for any number of clock cycles, under any inputs, and
its configuration never changes. R226 (fairness) and R372: whatever the inputs, after some finite number of clock cycles
every entry and every slot now hidden in a FIFO has become visible (no more are hidden than were added since), and a FIFO that
holds an entry is ready to read, one with room ready to write. That the fairness holds of the model's choices is its form of
them (log entry 7). Derived. -/
def Obligations.FabricNeverHaltsAndFlagsRise : Prop :=
  (∀ (n : Nat) (s : State), s.cfg.legal = true → ∃ t, runFor n s = .next t ∧ t.cfg = s.cfg ∧ t.tick = s.tick + n) ∧
  ∀ s : State, s.Inv →
    (∃ n t, runFor n s = .next t ∧ t.el.rxVis.hidW ≤ (rxTaken n s).length) ∧
    (∃ n t, runFor n s = .next t ∧ t.el.rxVis.hidR ≤ (rxRead n s).length) ∧
    (∃ n t, runFor n s = .next t ∧ t.el.txVis.hidW ≤ (txWritten n s).length) ∧
    (∃ n t, runFor n s = .next t ∧ t.el.txVis.hidR ≤ (txSent n s).length) ∧
    (s.el.rxFifo ≠ [] → ∃ n t, runFor n s = .next t ∧ t.rxReadReady = true) ∧
    (s.el.rxFifo.length < s.cfg.rxDepth → ∃ n t, runFor n s = .next t ∧ t.rxWriteReady = true) ∧
    (s.el.txFifo ≠ [] → ∃ n t, runFor n s = .next t ∧ t.txReadReady = true) ∧
    (s.el.txFifo.length < s.cfg.txDepth → ∃ n t, runFor n s = .next t ∧ t.txWriteReady = true)

/-- R20: "Nothing else survives a clock edge": the next state depends on the record S, the configuration, the inputs to come
and the number of the clock cycle, not on the last clock cycle's inputs, outputs or internal signals. The number counts because
the draws and choices, which R10 takes fresh, are functions of it: the model's choice (log entries 6 and 7). Derived. -/
def Obligations.SignalsDoNotSurviveTheEdge : Prop :=
  ∀ s s' : State, s'.cfg = s.cfg → s'.el = s.el → s'.script = s.script → s'.tick = s.tick → step s' = step s

/-- R44 and the bounds of R226, kept by every step, from every state that meets them, reachable or not. Derived. -/
def Obligations.StepKeepsTheInvariants : Prop :=
  ∀ s t : State, s.Inv → step s = .next t → t.Inv

/-- The reset state of every legal configuration meets the invariants, and REF is legal. Derived from R43, R44. -/
def Obligations.ResetMeetsTheInvariants : Prop :=
  (∀ c : Config, c.legal = true → (State.resetOf c).Inv) ∧ State.reset.Inv

/-- R43: every element after reset; `mem = MEM_INIT`, read byte by byte, lane 0 in bits 7:0. That a word the list does not give is
0 is the model's choice (log entry 5: the list stands for the whole array; R25, R353 and D18 assume no zero). Derived from
R43, R60. -/
def Obligations.ResetLeavesTheTableValues : Prop :=
  ∀ c : Config,
    (State.resetOf c).el =
      { grant := .m0, mcState := .idle, mcAdr := 0, mem := (State.resetOf c).el.mem, brDat := 0, brAck := false, brCnt := 0,
        csrRdata := 0, divisor := c.divisorReset, rxFifo := [], txFifo := [], rxVis := (State.resetOf c).el.rxVis, txVis := (State.resetOf c).el.txVis } ∧
    (State.resetOf c).el.rxVis.hidW = 0 ∧ (State.resetOf c).el.rxVis.hidR = 0 ∧
    (State.resetOf c).el.txVis.hidW = 0 ∧ (State.resetOf c).el.txVis.hidR = 0 ∧
    ∀ a : Nat, (State.resetOf c).el.mem.read a = (c.memInit.getD (a / 4) 0).extractLsb' (8 * (a % 4)) 8

/-- R351: the outputs of clock cycle 0 with idle inputs, the memory's base being 0x00000000 as the source has it (R70). -/
def Obligations.OutputsOfTheFirstClockCycle : Prop :=
  ∀ c : Config, c.legal = true → c.memBase = 0 →
    ∃ t, step (State.resetOf c) = .next t ∧
      t.out.m0 = { ack := false, err := false, datR := c.memInit.getD 0 0 } ∧
      t.out.m1 = { ack := false, err := false, datR := c.memInit.getD 0 0 } ∧
      t.out.rxAck = false ∧ t.out.txAck = false ∧ t.out.divisor = c.divisorReset

/-! ### Memory Controller and burst address generator -/

/-- R164, R161, R163: MC.IDLE, MC.LATCH, MC.RELEASE, selected by their keys; `p.ack` is 0, `p.dat_r` shows the addressed word
(R172), nothing but the elements named changes. The value on `p.dat_r` without an acknowledge is a model value (log entry 8,
D5, U4), which R172 says a claim about the hardware must not depend on. Derived. -/
def Obligations.ControllerIdlesLatchesReleases : Prop :=
  ∀ (s : State) (c : Config) (a : Args),
    decode c ⟨.mc, 0b00, a⟩ = .ok .mcIdle ∧ decode c ⟨.mc, 0b01, a⟩ = .ok (.mcLatch a.adr) ∧
    decode c ⟨.mc, 0b10, a⟩ = .ok .mcRelease ∧
    exec .mcIdle s =
      .next { s with wires := { s.wires with p := { ack := false, datR := s.el.mem.readWord s.el.mcAdr.toNat } } } ∧
    exec (.mcLatch a.adr) s =
      .next { s with
        el := { s.el with mcAdr := BitVec.ofNat 30 (a.adr.toNat % 2 ^ s.cfg.memAW), mcState := .cycle }
        wires := { s.wires with p := { ack := false, datR := s.el.mem.readWord s.el.mcAdr.toNat } } } ∧
    exec .mcRelease s =
      .next { s with
        el := { s.el with mcState := .idle }
        wires := { s.wires with p := { ack := false, datR := s.el.mem.readWord s.el.mcAdr.toNat } } }

/-- R162 with R165 and R166: MC.BEAT acknowledges, shows the word as it stood, commits exactly the selected lanes of a write
where MEM_WRITABLE, and advances the latched address by the mask formula. Every other byte and element keeps its value. -/
def Obligations.ControllerBeatServesOneWord : Prop :=
  ∀ (s : State) (we : Bool) (sel : BitVec 4) (datW : Word) (cti : BitVec 3) (bte : BitVec 2),
    (∀ c : Config, decode c ⟨.mc, 0b11, { we := we, sel := sel, datW := datW, cti := cti, bte := bte }⟩ =
      .ok (.mcBeat we sel datW cti bte)) ∧
    (s.el.mem.wf = true →
    ∃ t, exec (.mcBeat we sel datW cti bte) s = .next t ∧ sameContext s t ∧ t.out = s.out ∧
      t.wires = { s.wires with p := { ack := true, datR := s.el.mem.readWord s.el.mcAdr.toNat } } ∧
      t.el = { s.el with mcState := .cycle, mcAdr := flatAdvance s.cfg s.el.mcAdr cti bte, mem := t.el.mem } ∧
      ∀ a, t.el.mem.read a =
        if we = true ∧ s.cfg.memWritable = true then mergedByte s.el.mem s.el.mcAdr.toNat sel datW a
        else s.el.mem.read a)

/-- R167, R168, R169, R171: the four ADV operations, selected by VK: linear modulo 2^MEM_AW; else the low 2, 3, 4 bits count
modulo 4, 8, 16 and the bits above stay. In a memory smaller than the window a wrap is the linear step (R170 (4)). Nothing
else changes. -/
def Obligations.AdvanceCountsInItsWindow : Prop :=
  ∀ (s : State) (c : Config) (a : Args),
    (∀ (cti : BitVec 3) (bte : BitVec 2), (cti ≠ 0b010#3 ∨ bte = 0b00#2 → advKey cti bte = 0b00#2) ∧
      (cti = 0b010#3 → advKey cti bte = bte)) ∧
    decode c ⟨.adv, 0b00, a⟩ = .ok .advLinear ∧ decode c ⟨.adv, 0b01, a⟩ = .ok .advWrap4 ∧
    decode c ⟨.adv, 0b10, a⟩ = .ok .advWrap8 ∧ decode c ⟨.adv, 0b11, a⟩ = .ok .advWrap16 ∧
    exec .advLinear s =
      .next { s with el := { s.el with mcAdr := BitVec.ofNat 30 ((s.el.mcAdr.toNat + 1) % 2 ^ s.cfg.memAW) } } ∧
    (2 ≤ s.cfg.memAW → exec .advWrap4 s =
      .next { s with el := { s.el with
        mcAdr := s.el.mcAdr.extractLsb' 2 28 ++ (s.el.mcAdr.extractLsb' 0 2 + 1#2) } }) ∧
    (3 ≤ s.cfg.memAW → exec .advWrap8 s =
      .next { s with el := { s.el with
        mcAdr := s.el.mcAdr.extractLsb' 3 27 ++ (s.el.mcAdr.extractLsb' 0 3 + 1#3) } }) ∧
    (4 ≤ s.cfg.memAW → exec .advWrap16 s =
      .next { s with el := { s.el with
        mcAdr := s.el.mcAdr.extractLsb' 4 26 ++ (s.el.mcAdr.extractLsb' 0 4 + 1#4) } }) ∧
    (s.el.mcAdr.toNat < 2 ^ s.cfg.memAW →
      (s.cfg.memAW < 2 → exec .advWrap4 s = exec .advLinear s) ∧
      (s.cfg.memAW < 3 → exec .advWrap8 s = exec .advLinear s) ∧
      (s.cfg.memAW < 4 → exec .advWrap16 s = exec .advLinear s))

/-- R170 (3): ADV.WRAPk applied k times returns the address; of the k addresses no two have the same low bits, and all have
the same upper bits, in every memory that holds the window. Derived (one clause of R170). -/
def Obligations.WrapBurstReturnsAfterItsWindow : Prop :=
  ∀ s : State, ∀ p ∈ [(Instr.advWrap4, 4), (Instr.advWrap8, 8), (Instr.advWrap16, 16)], p.2 ≤ 2 ^ s.cfg.memAW →
      repeatOp p.2 p.1 s = .next s ∧
      ∀ i j : Nat, i < j → j < p.2 →
        ∃ t u, repeatOp i p.1 s = .next t ∧ repeatOp j p.1 s = .next u ∧
          t.el.mcAdr.toNat % p.2 ≠ u.el.mcAdr.toNat % p.2 ∧
          t.el.mcAdr.toNat / p.2 = s.el.mcAdr.toNat / p.2 ∧ u.el.mcAdr.toNat / p.2 = s.el.mcAdr.toNat / p.2

/-- R127 to R145 and R175: a granted port that presents a read of the memory for `n + 1` clock cycles from IDLE, with any cycle
type, burst type, address in the memory, lanes and data lines in each, is acknowledged from the second clock cycle on, one
word a clock cycle: first the word at the first clock cycle's address, then in the order the burst address generator gives by
each acknowledged beat's own cycle type, whatever the other port and the transceiver do. Derived. -/
def Obligations.ReadBurstReturnsConsecutiveWords : Prop :=
  ∀ (s : State) (m : Master) (n : Nat), s.Inv → s.el.grant = m → s.el.mcState = .idle →
    (∀ k ≤ n, (s.requestAt m k).cyc = true ∧ (s.requestAt m k).stb = true ∧ (s.requestAt m k).we = false ∧
      selMem s.cfg (s.requestAt m k).adr = true) →
    (∃ t, runFor 1 s = .next t ∧ (t.out.master m).ack = false ∧ (t.out.master m).err = false) ∧
    ∀ j < n, ∃ t, runFor (j + 2) s = .next t ∧ t.el.grant = m ∧
      t.out.master m = { ack := true, err := false, datR := s.el.mem.readWord (s.burstIndex m j).toNat }

/-- R61, R77: a write acknowledged in the second clock cycle of its beat is seen by the next read of the word: the selected
lanes hold the new bytes, the others the old ones. The port holds the bus and lowers `stb` for one clock cycle between the
two (R126, R360). Derived. -/
def Obligations.WriteIsReadBack : Prop :=
  ∀ (s : State) (m : Master) (adr : Adr) (sel sel' sel'' : BitVec 4) (datW datW' datW'' : Word) (cti cti' : BitVec 3)
    (bte bte' : BitVec 2),
    s.Inv → s.cfg.memWritable = true → s.el.grant = m → s.el.mcState = .idle → selMem s.cfg adr = true →
    s.requestAt m 0 = writeRequest cti bte adr sel datW → s.requestAt m 1 = writeRequest cti bte adr sel datW →
    s.requestAt m 2 = waitRequest adr sel'' datW'' →
    s.requestAt m 3 = readRequest cti' bte' adr sel' datW' → s.requestAt m 4 = readRequest cti' bte' adr sel' datW' →
    ∃ t, runFor 5 s = .next t ∧ (t.out.master m).ack = true ∧
      ∀ k < 4, lane (t.out.master m).datR k =
        if sel.getLsbD k then lane datW k else s.el.mem.read (4 * (adr.toNat % 2 ^ s.cfg.memAW) + k)

/-! ### Bridge and Register File -/

/-- R193, R198, R199: BR.IDLE, BR.COLLECT, BR.ACK; none has a narrow strobe, so `csr_rdata` is cleared (R203). The narrow bus's
other lines show the downstream request's address and byte for the lane the counter counts (R192), and `q.dat_r` shows the
assembly register with or without an acknowledge (R192; without one a model value, log entry 8). Derived. -/
def Obligations.BridgeIdlesCollectsAcknowledges : Prop :=
  ∀ (s : State) (c : Config) (a : Args),
    let quiet := narrowBeat s.cfg false (s.el.brCnt.toNat % 4) s.downstream
    (∀ key < 0b10000, decode c ⟨.br, key, a⟩ = .ok .brIdle) ∧
    (∀ key ∈ [0b10100, 0b10101, 0b10110, 0b10111], decode c ⟨.br, key, a⟩ = .ok .brCollect) ∧
    (∀ key, 0b11000 ≤ key → key < 0b100000 → decode c ⟨.br, key, a⟩ = .ok .brAck) ∧
    exec .brIdle s =
      .next { s with
        el := { s.el with brCnt := 0, brAck := false, csrRdata := 0 }
        wires := { s.wires with q := { ack := false, datR := s.el.brDat }, narrow := quiet } } ∧
    exec .brCollect s =
      .next { s with
        el := { s.el with
          brDat := s.el.csrRdata ++ s.el.brDat.extractLsb' 0 24, brAck := true, brCnt := 0, csrRdata := 0 }
        wires := { s.wires with q := { ack := false, datR := s.el.brDat }, narrow := quiet } } ∧
    exec .brAck s =
      .next { s with
        el := { s.el with brCnt := 0, brAck := false, csrRdata := 0 }
        wires := { s.wires with q := { ack := true, datR := s.el.brDat }, narrow := quiet } }

/-- R194 to R197: lane k issues its narrow beat (a CSR.RD, CSR.WR or CSR.NOP of the lane's address by `sel[k]` and `we`) and
collects the byte of the lane before it into its own lane of the assembly register; the counter goes to k + 1. The narrow bus
shows the lane's address and byte whether or not the lane is selected (R192). What the narrow beat does is the CSR operation's
own effect; the rest of the record is unchanged. -/
def Obligations.BridgeLaneIssuesAndCollects : Prop :=
  ∀ (s : State) (adr : Adr) (sel : BitVec 4) (we : Bool) (datW : Word),
    (∀ c : Config, decode c ⟨.br, 0b10000, laneArgs adr sel we datW⟩ = .ok (.brLane0 adr sel we datW) ∧
      decode c ⟨.br, 0b10001, laneArgs adr sel we datW⟩ = .ok (.brLane1 adr sel we datW) ∧
      decode c ⟨.br, 0b10010, laneArgs adr sel we datW⟩ = .ok (.brLane2 adr sel we datW) ∧
      decode c ⟨.br, 0b10011, laneArgs adr sel we datW⟩ = .ok (.brLane3 adr sel we datW)) ∧
    (∃ t u, exec (.brLane0 adr sel we datW) s = .next t ∧ exec (narrowOp s.cfg 0 adr sel we datW) s = .next u ∧
      sameContext s t ∧ t.out = s.out ∧
      t.wires = { u.wires with
        q := { ack := false, datR := s.el.brDat }
        narrow := narrowBeat s.cfg true 0 { adr := adr, sel := sel, we := we, datW := datW } } ∧
      t.el = { u.el with brCnt := 1 }) ∧
    (∃ t u, exec (.brLane1 adr sel we datW) s = .next t ∧ exec (narrowOp s.cfg 1 adr sel we datW) s = .next u ∧
      sameContext s t ∧ t.out = s.out ∧
      t.wires = { u.wires with
        q := { ack := false, datR := s.el.brDat }
        narrow := narrowBeat s.cfg true 1 { adr := adr, sel := sel, we := we, datW := datW } } ∧
      t.el = { u.el with brCnt := 2, brDat := s.el.brDat.extractLsb' 8 24 ++ s.el.csrRdata }) ∧
    (∃ t u, exec (.brLane2 adr sel we datW) s = .next t ∧ exec (narrowOp s.cfg 2 adr sel we datW) s = .next u ∧
      sameContext s t ∧ t.out = s.out ∧
      t.wires = { u.wires with
        q := { ack := false, datR := s.el.brDat }
        narrow := narrowBeat s.cfg true 2 { adr := adr, sel := sel, we := we, datW := datW } } ∧
      t.el = { u.el with
        brCnt := 3
        brDat := s.el.brDat.extractLsb' 16 16 ++ (s.el.csrRdata ++ s.el.brDat.extractLsb' 0 8) }) ∧
    (∃ t u, exec (.brLane3 adr sel we datW) s = .next t ∧ exec (narrowOp s.cfg 3 adr sel we datW) s = .next u ∧
      sameContext s t ∧ t.out = s.out ∧
      t.wires = { u.wires with
        q := { ack := false, datR := s.el.brDat }
        narrow := narrowBeat s.cfg true 3 { adr := adr, sel := sel, we := we, datW := datW } } ∧
      t.el = { u.el with
        brCnt := 4
        brDat := s.el.brDat.extractLsb' 24 8 ++ (s.el.csrRdata ++ s.el.brDat.extractLsb' 0 16) })

/-- R101: lane k's narrow address is the low CSR_AW - 2 bits of the word address and then k, which are the low CSR_AW bits of
the byte address 4*adr + k: the offset inside the region. The Bridge drives it in every clock cycle: with R192, after each step
the narrow bus shows the address and the byte of the counted lane of the granted port's request, strobed or not, and the
strobes, `q.ack` and `q.dat_r` are R192's. -/
def Obligations.NarrowAddressIsTheByteOffset : Prop :=
  (∀ (c : Config) (adr : Adr) (k : Nat), c.legal = true → k < 4 →
    (narrowAddr c adr k).toNat = adr.toNat % 2 ^ (c.csrAW - 2) * 4 + k ∧
    (narrowAddr c adr k).toNat = (4 * adr.toNat + k) % 2 ^ c.csrAW ∧
    (selCsr c adr = true → c.csrBase + (narrowAddr c adr k).toNat = 4 * adr.toNat + k)) ∧
  ∀ s t : State, step s = .next t →
    let q := s.requestAt s.el.grant 0
    let brBeat := q.cyc && q.stb && selCsr s.cfg q.adr
    let k := s.el.brCnt.toNat % 4
    let active := brBeat && !s.el.brAck && decide (s.el.brCnt.toNat ≤ 3)
    t.wires.narrow =
      { addr := narrowAddr s.cfg q.adr k
        rStb := active && q.sel.getLsbD k && !q.we
        wStb := active && q.sel.getLsbD k && q.we
        wData := q.datW.extractLsb' (8 * k) 8 } ∧
    t.wires.q = { ack := s.el.brAck && brBeat, datR := s.el.brDat }

/-- R201, R202, R203: CSR.RD and CSR.WR perform the REG operation that the address selects; `csr_rdata` becomes the byte a
read yields, and 0 after a write or after nothing. Each drives its strobe and its operands; the narrow bus's lines that are no
operand of it stay as the Bridge drives them (R192; the model's reading of an operation run alone, log entry 12). Derived. -/
def Obligations.NarrowBusPerformsTheRegisterOperation : Prop :=
  ∀ (s : State) (addr : NarrowAdr) (data : Byte),
    (∀ c : Config, decode c ⟨.csr, 0b00, { csrAddr := addr, csrWData := data }⟩ = .ok .csrNop ∧
      (addr.toNat < c.csrSize →
        decode c ⟨.csr, 0b10, { csrAddr := addr, csrWData := data }⟩ = .ok (.csrRd addr) ∧
        decode c ⟨.csr, 0b01, { csrAddr := addr, csrWData := data }⟩ = .ok (.csrWr addr data))) ∧
    (∃ t u, exec (.csrRd addr) s = .next t ∧ exec (decodeREG s.cfg false addr data) s = .next u ∧ sameContext s t ∧
      t.out = s.out ∧ t.wires = { u.wires with narrow := { s.wires.narrow with addr := addr, rStb := true, wStb := false } } ∧
      t.el = { u.el with csrRdata := u.wires.regV }) ∧
    (∃ t u, exec (.csrWr addr data) s = .next t ∧ exec (decodeREG s.cfg true addr data) s = .next u ∧ sameContext s t ∧
      t.out = s.out ∧ t.wires = { u.wires with narrow := { addr := addr, wStb := true, wData := data } } ∧
      t.el = { u.el with csrRdata := 0 }) ∧
    exec .csrNop s =
      .next { s with
        el := { s.el with csrRdata := 0 }
        wires := { s.wires with narrow := { s.wires.narrow with rStb := false, wStb := false } } }

/-- R207: CTRL.RD yields byte `j` of the divisor, with no side effect. R208: CTRL.WR replaces, bit by bit, those bits of byte
`j` that exist, and nothing else. The divisor holds DIVISOR_WIDTH bits (R44). -/
def Obligations.ControlRegisterIsBytewise : Prop :=
  ∀ (s : State) (j : BitVec 2) (data : Byte), j.toNat < s.cfg.ctrlBytes →
    (s.cfg.legal = true →
      decodeREG s.cfg false (BitVec.ofNat 32 (s.cfg.offCtrl + j.toNat)) data = .ctrlRd j ∧
      decodeREG s.cfg true (BitVec.ofNat 32 (s.cfg.offCtrl + j.toNat)) data = .ctrlWr j data) ∧
    exec (.ctrlRd j) s =
      .next { s with wires := { s.wires with regV := s.el.divisor.extractLsb' (8 * j.toNat) 8 } } ∧
    (s.el.divisor.toNat < 2 ^ s.cfg.divisorWidth →
      ∃ t, exec (.ctrlWr j data) s = .next t ∧
        t = { s with el := { s.el with divisor := t.el.divisor } } ∧
        ∀ i < 32, t.el.divisor.getLsbD i =
          if 8 * j.toNat ≤ i ∧ i < 8 * j.toNat + 8 ∧ i < s.cfg.divisorWidth then data.getLsbD (i - 8 * j.toNat)
          else s.el.divisor.getLsbD i)

/-- R235: RX_INFO.RD. While `rx_fifo` is ready to read: parity, frame, overflow of the oldest entry and 1; otherwise bits 7:4
and bit 0 are 0 and bits 3:1 are some value. No side effect. -/
def Obligations.ReceiveInfoShowsTheOldestFlags : Prop :=
  ∀ s : State,
    (s.cfg.legal = true → decodeREG s.cfg false (BitVec.ofNat 32 s.cfg.offRxInfo) 0 = .rxInfoRd) ∧
    (∀ e rest, s.rxReadReady = true → s.el.rxFifo = e :: rest →
      exec .rxInfoRd s = .next { s with wires := { s.wires with regV := 0#4 ++ (e.extractLsb' 8 3 ++ 1#1) } }) ∧
    (s.rxReadReady = false → ∃ f : BitVec 3,
      exec .rxInfoRd s = .next { s with wires := { s.wires with regV := 0#4 ++ (f ++ 0#1) } })

/-- R232: RX_DATA.RD. While `rx_fifo` is ready to read it yields the oldest entry's byte and pops that entry (the consumer
takes the entry whole, R229); otherwise some byte, and nothing is removed. That the operation alone counts the pop and leaves
R226's reveal to the edge of the clock cycle is the model's division of FIFO.POP (log entry 13). Derived. -/
def Obligations.ReceiveDataPopsTheOldestEntry : Prop :=
  ∀ s : State,
    (∀ e rest, s.rxReadReady = true → s.el.rxFifo = e :: rest →
      exec .rxDataRd s =
        .next { s with
          el := { s.el with rxFifo := rest, rxVis := s.el.rxVis.bump s.cfg.fifoMode false true }
          wires := { s.wires with regV := e.extractLsb' 0 8, rxRData := e } }) ∧
    (s.rxReadReady = false → ∃ v : Byte, exec .rxDataRd s = .next { s with wires := { s.wires with regV := v } })

/-- R236: TX_INFO.RD yields the ready-to-write flag in bit 0, the other bits 0, no side effect. R233: TX_DATA.WR appends the
byte while `tx_fifo` is ready to write, and otherwise changes nothing. That the operation alone counts the push and leaves
R226's reveal to the edge of the clock cycle is the model's division of FIFO.PUSH (log entry 13). Derived. -/
def Obligations.TransmitRegistersReportAndPush : Prop :=
  ∀ (s : State) (data : Byte),
    exec .txInfoRd s = .next { s with wires := { s.wires with regV := if s.txWriteReady then 1#8 else 0#8 } } ∧
    (s.txWriteReady = true →
      exec (.txDataWr data) s =
        .next { s with el := { s.el with
          txFifo := s.el.txFifo ++ [data], txVis := s.el.txVis.bump s.cfg.fifoMode true false } }) ∧
    (s.txWriteReady = false → exec (.txDataWr data) s = .next s)

/-- R206: REG.RD.NONE yields 0x00 with no side effect. R213: REG.WR.NONE changes nothing. And they are what a read of the
write-only TX_DATA and a write of the read-only registers select (R209). -/
def Obligations.UnlistedRegistersDoNothing : Prop :=
  ∀ (s : State) (addr : NarrowAdr) (data : Byte),
    exec (.regRdNone addr) s = .next { s with wires := { s.wires with regV := 0 } } ∧
    exec (.regWrNone addr data) s = .next s ∧
    (readableByte s.cfg addr = false → decodeREG s.cfg false addr data = .regRdNone addr) ∧
    (writableByte s.cfg addr = false → decodeREG s.cfg true addr data = .regWrNone addr data) ∧
    (s.cfg.legal = true → readableByte s.cfg (BitVec.ofNat 32 s.cfg.offTxData) = false ∧
      writableByte s.cfg (BitVec.ofNat 32 s.cfg.offRxInfo) = false ∧
      writableByte s.cfg (BitVec.ofNat 32 s.cfg.offRxData) = false ∧
      writableByte s.cfg (BitVec.ofNat 32 s.cfg.offTxInfo) = false)

/-- R205 and R200: a granted port that holds one beat to the register region for six clock cycles from the Bridge's rest gets
its lanes' narrow beats in the first four, one each, no response in the first five, and in the sixth the acknowledge; the
assembly register then holds the four bytes the lanes read (0x00 for a lane not selected, and for a write), which a read
returns; after it the Bridge is at rest. In the last two clock cycles the narrow bus shows the counted lane without a strobe
(R192). That the byte of a clock cycle without a register read counts as 0 is how the model keeps an undriven signal (log entry
15). Derived. -/
def Obligations.BridgeTransactionTakesSixClockCycles : Prop :=
  ∀ (s : State) (m : Master) (b : Request), s.Inv → s.el.grant = m → s.el.brCnt = 0#3 → s.el.brAck = false →
    b.cyc = true → b.stb = true → selCsr s.cfg b.adr = true → (∀ k < 6, s.requestAt m k = b) →
    ∃ t1 t2 t3 t4 t5 t6, runFor 1 s = .next t1 ∧ runFor 2 s = .next t2 ∧ runFor 3 s = .next t3 ∧
      runFor 4 s = .next t4 ∧ runFor 5 s = .next t5 ∧ runFor 6 s = .next t6 ∧
      (∀ t ∈ [t1, t2, t3, t4, t5], (t.out.master m).ack = false ∧ (t.out.master m).err = false) ∧
      t1.wires.narrow = narrowBeat s.cfg true 0 b ∧ t2.wires.narrow = narrowBeat s.cfg true 1 b ∧
      t3.wires.narrow = narrowBeat s.cfg true 2 b ∧ t4.wires.narrow = narrowBeat s.cfg true 3 b ∧
      t5.wires.narrow = narrowBeat s.cfg false 0 b ∧ t6.wires.narrow = narrowBeat s.cfg false 0 b ∧
      (t6.out.master m).ack = true ∧ (t6.out.master m).err = false ∧
      t5.el.brDat = t4.wires.regV ++ (t3.wires.regV ++ (t2.wires.regV ++ t1.wires.regV)) ∧
      (b.we = true → t5.el.brDat = 0) ∧ (∀ k < 4, b.sel.getLsbD k = false → lane t5.el.brDat k = 0) ∧
      (b.we = false → (t6.out.master m).datR = t5.el.brDat) ∧
      t6.el.grant = m ∧ t6.el.brCnt = 0#3 ∧ t6.el.brAck = false

/-- R30, R67: in any clock cycle, `divisor` changes only where a narrow write strobes a byte of CTRL, an entry leaves `rx_fifo`
only where a narrow read strobes RX_DATA, and a byte enters `tx_fifo` only where a narrow write strobes TX_DATA; all other
register accesses are pure. Derived. -/
def Obligations.RegisterSideEffectsAreTheNamedOnes : Prop :=
  ∀ s t : State, step s = .next t →
    (¬ (s.load.writeStrobe = true ∧ s.cfg.offCtrl ≤ s.load.narrowNow.toNat ∧
        s.load.narrowNow.toNat < s.cfg.offCtrl + s.cfg.ctrlBytes) → t.el.divisor = s.el.divisor) ∧
    (¬ (s.load.readStrobe = true ∧ s.load.narrowNow.toNat = s.cfg.offRxData) → s.el.rxFifo <+: t.el.rxFifo) ∧
    (¬ (s.load.writeStrobe = true ∧ s.load.narrowNow.toNat = s.cfg.offTxData) → t.el.txFifo <:+ s.el.txFifo)

/-! ### FIFOs and transceiver -/

/-- R227, R228, R229, R234: the four operations of each FIFO. The lists are as the rules give them, the counters as R226 lets
them be (in exact mode unchanged; the time a reveal may wait is the model's form of its fairness, log entry 7), the consumer
takes the old head where there is one (a pop is selected only then, R223), nothing else changes. Derived. -/
def Obligations.FifoOperationsKeepTheQueue : Prop :=
  ∀ (s : State) (w : RxEntry),
    (∃ t, exec (.fifoNop .rx) s = .next t ∧ t = { s with el := { s.el with rxVis := t.el.rxVis } } ∧
      s.el.rxVis.after s.cfg.fifoMode false false t.el.rxVis) ∧
    (∃ t, exec (.fifoNop .tx) s = .next t ∧ t = { s with el := { s.el with txVis := t.el.txVis } } ∧
      s.el.txVis.after s.cfg.fifoMode false false t.el.txVis) ∧
    (∃ t, exec (.fifoPush .rx w) s = .next t ∧
      t = { s with el := { s.el with rxFifo := s.el.rxFifo ++ [w], rxVis := t.el.rxVis } } ∧
      s.el.rxVis.after s.cfg.fifoMode true false t.el.rxVis) ∧
    (∃ t, exec (.fifoPush .tx w) s = .next t ∧
      t = { s with el := { s.el with txFifo := s.el.txFifo ++ [w.extractLsb' 0 8], txVis := t.el.txVis } } ∧
      s.el.txVis.after s.cfg.fifoMode true false t.el.txVis) ∧
    (∃ t, exec (.fifoPop .rx) s = .next t ∧
      t = { s with
        el := { s.el with rxFifo := s.el.rxFifo.tail, rxVis := t.el.rxVis }
        wires := { s.wires with rxRData := t.wires.rxRData } } ∧
      (∀ e rest, s.el.rxFifo = e :: rest → t.wires.rxRData = e) ∧
      s.el.rxVis.after s.cfg.fifoMode false true t.el.rxVis) ∧
    (∃ t, exec (.fifoPop .tx) s = .next t ∧
      t = { s with
        el := { s.el with txFifo := s.el.txFifo.tail, txVis := t.el.txVis }
        wires := { s.wires with txRData := t.wires.txRData } } ∧
      (∀ e rest, s.el.txFifo = e :: rest → t.wires.txRData = e) ∧
      s.el.txVis.after s.cfg.fifoMode false true t.el.txVis) ∧
    (∃ t, exec (.fifoPushPop .rx w) s = .next t ∧
      t = { s with
        el := { s.el with rxFifo := s.el.rxFifo.tail ++ [w], rxVis := t.el.rxVis }
        wires := { s.wires with rxRData := t.wires.rxRData } } ∧
      (∀ e rest, s.el.rxFifo = e :: rest → t.wires.rxRData = e) ∧
      s.el.rxVis.after s.cfg.fifoMode true true t.el.rxVis) ∧
    (∃ t, exec (.fifoPushPop .tx w) s = .next t ∧
      t = { s with
        el := { s.el with txFifo := s.el.txFifo.tail ++ [w.extractLsb' 0 8], txVis := t.el.txVis }
        wires := { s.wires with txRData := t.wires.txRData } } ∧
      (∀ e rest, s.el.txFifo = e :: rest → t.wires.txRData = e) ∧
      s.el.txVis.after s.cfg.fifoMode true true t.el.txVis)

/-- R222, R223: the flags in both modes, functions of the state only, and that neither ever promises what is not there. With
R228 and R229, in exact mode: after a push the FIFO is ready to read, after a pop of an entry it is ready to write, and the
other flag follows the count. -/
def Obligations.FifoFlagsNeverOverpromise : Prop :=
  (∀ (depth len : Nat) (v : Vis),
    (writeReady .exactFlags depth len v = true ↔ len < depth) ∧
    (readReady .exactFlags len v = true ↔ 0 < len) ∧
    (writeReady .laggingFlags depth len v = true ↔ len + v.hidR < depth) ∧
    (readReady .laggingFlags len v = true ↔ v.hidW < len) ∧
    ∀ mode, (writeReady mode depth len v = true → len < depth) ∧ (readReady mode len v = true → 0 < len)) ∧
  ∀ (s : State) (w : RxEntry), s.cfg.fifoMode = .exactFlags →
    (∃ t, exec (.fifoPush .rx w) s = .next t ∧ t.rxReadReady = true ∧
      (t.rxWriteReady = true ↔ s.el.rxFifo.length + 1 < s.cfg.rxDepth)) ∧
    (∃ t, exec (.fifoPush .tx w) s = .next t ∧ t.txReadReady = true ∧
      (t.txWriteReady = true ↔ s.el.txFifo.length + 1 < s.cfg.txDepth)) ∧
    (0 < s.el.rxFifo.length → s.el.rxFifo.length ≤ s.cfg.rxDepth →
      ∃ t, exec (.fifoPop .rx) s = .next t ∧ t.rxWriteReady = true ∧ (t.rxReadReady = true ↔ 1 < s.el.rxFifo.length)) ∧
    (0 < s.el.txFifo.length → s.el.txFifo.length ≤ s.cfg.txDepth →
      ∃ t, exec (.fifoPop .tx) s = .next t ∧ t.txWriteReady = true ∧ (t.txReadReady = true ↔ 1 < s.el.txFifo.length))

/-- R230, R237, R238: RX.ACCEPT, RX.REFUSE, RX.IDLE. That RX.ACCEPT alone counts the push and leaves R226's reveal to the edge of
the clock cycle is the model's division of FIFO.PUSH (log entry 13). Derived. -/
def Obligations.ReceiverSideAcceptsOrRefuses : Prop :=
  ∀ (s : State) (data : Byte) (ovf ferr perr : Bool),
    (∀ (c : Config) (a : Args), a.fifo = .rx →
      decode c ⟨.ux, 0b00, a⟩ = .ok .rxIdle ∧ decode c ⟨.ux, 0b01, a⟩ = .ok .rxIdle ∧
      decode c ⟨.ux, 0b10, a⟩ = .ok .rxRefuse ∧
      decode c ⟨.ux, 0b11, a⟩ = .ok (.rxAccept a.rxData a.rxOvf a.rxFerr a.rxPerr)) ∧
    exec .rxIdle s = .next { s with out := { s.out with rxAck := false } } ∧
    exec .rxRefuse s = .next { s with out := { s.out with rxAck := false } } ∧
    exec (.rxAccept data ovf ferr perr) s =
      .next { s with
        el := { s.el with
          rxFifo := s.el.rxFifo ++
            [BitVec.ofBool perr ++ (BitVec.ofBool ferr ++ (BitVec.ofBool ovf ++ data))]
          rxVis := s.el.rxVis.bump s.cfg.fifoMode true false }
        out := { s.out with rxAck := true } }

/-- R231, R240, R246: TX.PULL hands over the oldest byte and pops it; TX.IDLE shows it while the FIFO is ready to read and
some byte otherwise; TX.EMPTY shows some byte; the last two change nothing. (XT[0] is `r_rdy`: TX.PULL and TX.IDLE with
`r_rdy` 1 are selected only while there is an oldest byte, R223.) That TX.PULL alone counts the pop and leaves R226's reveal to
the edge of the clock cycle is the model's division of FIFO.POP (log entry 13). Derived. -/
def Obligations.TransmitterSidePullsOrWaits : Prop :=
  ∀ (s : State) (c : Config) (a : Args),
    (a.fifo = .tx →
      decode c ⟨.ux, 0b00, a⟩ = .ok (.txIdle false) ∧ decode c ⟨.ux, 0b01, a⟩ = .ok (.txIdle true) ∧
      decode c ⟨.ux, 0b10, a⟩ = .ok .txEmpty ∧ decode c ⟨.ux, 0b11, a⟩ = .ok .txPull) ∧
    (∃ v : Byte,
      exec .txPull s =
        .next { s with
          el := { s.el with txFifo := s.el.txFifo.tail, txVis := s.el.txVis.bump s.cfg.fifoMode false true }
          out := { s.out with txAck := true, txData := v }
          wires := { s.wires with txRData := v } } ∧
      exec (.txIdle true) s = .next { s with out := { s.out with txAck := false, txData := v } } ∧
      ∀ e rest, s.el.txFifo = e :: rest → v = e) ∧
    (∃ v : Byte, exec (.txIdle false) s = .next { s with out := { s.out with txAck := false, txData := v } }) ∧
    (∃ v : Byte, exec .txEmpty s = .next { s with out := { s.out with txAck := false, txData := v } })

/-- R83, R242: over any run, the bytes in `tx_fifo` at the start and then the bytes written to TX_DATA that it took are exactly
the bytes handed to the transceiver and then those still waiting, in order, none lost, none twice, none altered. Derived. -/
def Obligations.TransmittedBytesAreTheWrittenOnes : Prop :=
  ∀ (n : Nat) (s t : State), runFor n s = .next t →
    s.el.txFifo ++ txWritten n s = txSent n s ++ t.el.txFifo

/-- R83, R242 for the receive side: the entries held and then taken from the transceiver are exactly those that reads of
RX_DATA popped and then those still waiting, flags included; the count is what came in less what went out. Derived. -/
def Obligations.ReceivedEntriesArriveInOrder : Prop :=
  ∀ (n : Nat) (s t : State), runFor n s = .next t →
    s.el.rxFifo ++ rxTaken n s = rxRead n s ++ t.el.rxFifo ∧
    t.el.rxFifo.length + (rxRead n s).length = s.el.rxFifo.length + (rxTaken n s).length

/-! ### Decoder -/

/-- R71, R262: the two range tests are the byte ranges of the address map, both ends exact, and no address lies in both.
Derived. -/
def Obligations.RangesAreExactAndDisjoint : Prop :=
  ∀ (c : Config) (adr : Adr), c.legal = true →
    (selMem c adr = true ↔ c.memBase ≤ 4 * adr.toNat ∧ 4 * adr.toNat < c.memBase + c.memSize) ∧
    (selCsr c adr = true ↔ c.csrBase ≤ 4 * adr.toNat ∧ 4 * adr.toNat < c.csrBase + c.csrSize) ∧
    ¬ (selMem c adr = true ∧ selCsr c adr = true)

/-- R263, R264, R265: DEC.MEM, DEC.CSR, DEC.MISS. The slave the address selects performs the operation its own key selects,
the other one is idle (MC.IDLE or MC.RELEASE; BR.IDLE); the response is that slave's, or on a miss `err` for a strobed beat,
with no data. The narrow bus's lines show the request's lane in each case (R192, R266). -/
def Obligations.DecoderRoutesTheRequest : Prop :=
  ∀ (s : State) (d : Request),
    (selMem s.cfg d.adr = true → decodeDEC s.cfg d = .decMem d) ∧
    (s.cfg.legal = true → selCsr s.cfg d.adr = true → decodeDEC s.cfg d = .decCsr d) ∧
    (selMem s.cfg d.adr = false → selCsr s.cfg d.adr = false → decodeDEC s.cfg d = .decMiss d) ∧
    (∃ t u w, exec (.decMem d) s = .next t ∧
      exec (decodeMC (decide (s.el.mcState = .cycle)) (d.cyc && d.stb) (downstreamArgs d)) s = .next u ∧
      exec .brIdle u = .next w ∧ sameContext s t ∧ t.out = s.out ∧ t.el = w.el ∧
      t.wires = { w.wires with
        d := { ack := u.wires.p.ack, err := false, datR := u.wires.p.datR }
        narrow := narrowBeat s.cfg false (s.el.brCnt.toNat % 4) d }) ∧
    (∃ t u w, exec (.decCsr d) s = .next t ∧
      exec (decodeMC (decide (s.el.mcState = .cycle)) false (downstreamArgs d)) s = .next u ∧
      exec (decodeBR (d.cyc && d.stb) u.el.brAck u.el.brCnt (downstreamArgs d)) u = .next w ∧
      sameContext s t ∧ t.out = s.out ∧ t.el = w.el ∧
      t.wires = { w.wires with
        d := { ack := w.wires.q.ack, err := false, datR := w.wires.q.datR }
        narrow := narrowBeat s.cfg (d.cyc && d.stb && !s.el.brAck && decide (s.el.brCnt.toNat ≤ 3))
          (s.el.brCnt.toNat % 4) d }) ∧
    (∃ t u w, exec (.decMiss d) s = .next t ∧
      exec (decodeMC (decide (s.el.mcState = .cycle)) false (downstreamArgs d)) s = .next u ∧
      exec .brIdle u = .next w ∧ sameContext s t ∧ t.out = s.out ∧ t.el = w.el ∧
      t.wires = { w.wires with
        d := { ack := false, err := d.cyc && d.stb, datR := 0 }
        narrow := narrowBeat s.cfg false (s.el.brCnt.toNat % 4) d })

/-- R268, R326, R282, R124: in every clock cycle only the port granted at its start can see a response, never `ack` and `err`
together, only while it strobes; both see the same `dat_r`. Derived. -/
def Obligations.AtMostOneResponse : Prop :=
  ∀ s t : State, step s = .next t →
    (t.out.master s.el.grant.other).ack = false ∧ (t.out.master s.el.grant.other).err = false ∧
    ¬ ((t.out.master s.el.grant).ack = true ∧ (t.out.master s.el.grant).err = true) ∧
    ((t.out.master s.el.grant).ack = true ∨ (t.out.master s.el.grant).err = true →
      (s.requestAt s.el.grant 0).cyc = true ∧ (s.requestAt s.el.grant 0).stb = true) ∧
    ((t.out.master s.el.grant).err = true →
      selMem s.cfg (s.requestAt s.el.grant 0).adr = false ∧ selCsr s.cfg (s.requestAt s.el.grant 0).adr = false) ∧
    t.out.m0.datR = t.out.m1.datR

/-! ### Arbiter -/

/-- R284 to R289: the six ARB operations, selected by their keys; each writes the grant and nothing else. -/
def Obligations.ArbiterHoldsSwitchesParks : Prop :=
  ∀ (s : State) (c : Config) (a : Args),
    (∀ key ∈ [0b001, 0b011], decode c ⟨.arb, key, a⟩ = .ok .arbHold0) ∧
    (∀ key ∈ [0b110, 0b111], decode c ⟨.arb, key, a⟩ = .ok .arbHold1) ∧
    decode c ⟨.arb, 0b010, a⟩ = .ok .arbSwitch01 ∧ decode c ⟨.arb, 0b101, a⟩ = .ok .arbSwitch10 ∧
    decode c ⟨.arb, 0b000, a⟩ = .ok .arbPark0 ∧ decode c ⟨.arb, 0b100, a⟩ = .ok .arbPark1 ∧
    exec .arbHold0 s = .next { s with el := { s.el with grant := .m0 } } ∧
    exec .arbHold1 s = .next { s with el := { s.el with grant := .m1 } } ∧
    exec .arbSwitch01 s = .next { s with el := { s.el with grant := .m1 } } ∧
    exec .arbSwitch10 s = .next { s with el := { s.el with grant := .m0 } } ∧
    exec .arbPark0 s = .next { s with el := { s.el with grant := .m0 } } ∧
    exec .arbPark1 s = .next { s with el := { s.el with grant := .m1 } }

/-- R283 at every clock edge, for two masters: held while its holder has `cyc`; else it goes to the other port if that
requests; else it stays. -/
def Obligations.GrantFollowsRoundRobin : Prop :=
  ∀ s t : State, step s = .next t →
    t.el.grant =
      if (s.requestAt s.el.grant 0).cyc then s.el.grant
      else if (s.requestAt s.el.grant.other 0).cyc then s.el.grant.other
      else s.el.grant

/-- R290: a port that requests without a break is connected in the clock cycle after the first one in which the holder has
`cyc` 0, and until then the grant does not move. Derived. -/
def Obligations.RequesterIsConnectedAfterTheHolder : Prop :=
  ∀ (s : State) (u : Nat), s.cfg.legal = true →
    (∀ k ≤ u, (s.requestAt s.el.grant.other k).cyc = true) →
    (∀ k < u, (s.requestAt s.el.grant k).cyc = true) → (s.requestAt s.el.grant u).cyc = false →
    (∀ k ≤ u, ∃ t, runFor k s = .next t ∧ t.el.grant = s.el.grant) ∧
    ∃ t, runFor (u + 1) s = .next t ∧ t.el.grant = s.el.grant.other

/-- R281, R291: what a port that is not granted presents, but for its `cyc`, has no effect at all: neither on the next state's
record nor on any output. Two clock cycles of the same number are compared, for which the model has the same draws and choices
(log entries 6 and 7: its choice; R10's draws are fresh), so it says so for each value they can have. Derived. -/
def Obligations.WaitingPortHasNoInfluence : Prop :=
  ∀ (s s' t t' : State), s'.cfg = s.cfg → s'.el = s.el → s'.tick = s.tick →
    s'.nextRow.x = s.nextRow.x →
    s'.requestAt s.el.grant 0 = s.requestAt s.el.grant 0 →
    (s'.requestAt s.el.grant.other 0).cyc = (s.requestAt s.el.grant.other 0).cyc →
    step s = .next t → step s' = .next t' → t'.el = t.el ∧ t'.out = t.out

/-! ### Master ports -/

/-- R124, R291: every WB operation of a port that is not granted: no response, and nothing else. Derived. -/
def Obligations.UngrantedPortGetsNoResponse : Prop :=
  ∀ (s : State) (m : Master) (adr : Adr) (sel : BitVec 4) (datW : Word), s.el.grant ≠ m →
    ∀ i ∈ wbOps m adr sel datW,
      ∃ t, exec i s = .next t ∧ sameContext s t ∧ t.el = s.el ∧ t.wires = s.wires ∧
        t.out.master m = { s.out.master m with ack := false, err := false } ∧
        t.out.master m.other = s.out.master m.other ∧
        t.out.rxAck = s.out.rxAck ∧ t.out.txAck = s.out.txAck ∧ t.out.txData = s.out.txData ∧ t.out.divisor = s.out.divisor

/-- R125, R126: WB.IDLE and WB.WAIT of the granted port: no response; the Memory Controller releases or idles, the Bridge
idles; the grant passes to the other port only from WB.IDLE and only if that port requests. Derived. -/
def Obligations.GrantedPortWithoutBeat : Prop :=
  ∀ (s : State) (m : Master) (adr : Adr), s.el.grant = m →
    (∃ t, exec (.wbIdle m adr) s = .next t ∧ sameContext s t ∧
      (t.out.master m).ack = false ∧ (t.out.master m).err = false ∧
      (t.out.master m.other).ack = false ∧ (t.out.master m.other).err = false ∧
      t.el = { s.el with
        grant := if (portRequest s.inp m.other).cyc then m.other else m
        mcState := .idle, brCnt := 0, brAck := false, csrRdata := 0 }) ∧
    (∃ t, exec (.wbWait m adr) s = .next t ∧ sameContext s t ∧
      (t.out.master m).ack = false ∧ (t.out.master m).err = false ∧
      (t.out.master m.other).ack = false ∧ (t.out.master m.other).err = false ∧
      t.el = { s.el with mcState := .idle, brCnt := 0, brAck := false, csrRdata := 0 })

/-- R321, R265: every strobed beat of the granted port to an unmapped address gets `err` in the same clock cycle, no `ack`, no
data; it reaches no slave: what it leaves is what WB.WAIT at the same address leaves. Derived. -/
def Obligations.UnmappedBeatGetsErrAndNoEffect : Prop :=
  ∀ (s : State) (m : Master) (adr : Adr) (sel : BitVec 4) (datW : Word), s.el.grant = m → decodeMiss s.cfg adr = true →
    ∀ p ∈ readBeats m adr sel ++ writeBeats m adr sel datW,
      ∃ t u, exec p.1 s = .next t ∧ exec (.wbWait m adr) s = .next u ∧ sameContext s t ∧
        t.out.master m = { ack := false, err := true, datR := 0 } ∧
        t.out.master m.other = { ack := false, err := false, datR := 0 } ∧
        t.el = u.el ∧ t.el = { s.el with mcState := .idle, brCnt := 0, brAck := false, csrRdata := 0 }

/-- R123, R161: the first strobed clock cycle of a beat of the granted port to the memory latches the word index and is not
acknowledged, for every read and every write. Derived. -/
def Obligations.FirstMemoryBeatLatchesTheAddress : Prop :=
  ∀ (s : State) (m : Master) (adr : Adr) (sel : BitVec 4) (datW : Word), s.el.grant = m → selMem s.cfg adr = true →
    s.el.mcState = .idle →
    ∀ p ∈ readBeats m adr sel ++ writeBeats m adr sel datW,
      ∃ t, exec p.1 s = .next t ∧ sameContext s t ∧ (t.out.master m).ack = false ∧ (t.out.master m).err = false ∧
        (t.out.master m.other).ack = false ∧ (t.out.master m.other).err = false ∧
        t.el = { s.el with
          mcState := .cycle, mcAdr := BitVec.ofNat 30 (adr.toNat % 2 ^ s.cfg.memAW)
          brCnt := 0, brAck := false, csrRdata := 0 }

/-- R127 to R145 on the memory: a read of the granted port in CYCLE is acknowledged with the word at the latched address,
whatever `adr` and `sel` are, and the latched address advances by the beat's own cycle type. The Bridge, not selected, performs
BR.IDLE (R123): counter, acknowledge and `csr_rdata` are cleared. Memory and every other element stay. Derived. -/
def Obligations.MemoryReadBeatReturnsTheWord : Prop :=
  ∀ (s : State) (m : Master) (adr : Adr) (sel : BitVec 4), s.el.grant = m → selMem s.cfg adr = true → s.el.mcState = .cycle →
    ∀ p ∈ readBeats m adr sel,
      ∃ t, exec p.1 s = .next t ∧ sameContext s t ∧
        t.out.master m = { ack := true, err := false, datR := s.el.mem.readWord s.el.mcAdr.toNat } ∧
        (t.out.master m.other).ack = false ∧ (t.out.master m.other).err = false ∧
        t.el = { s.el with
          mcAdr := flatAdvance s.cfg s.el.mcAdr p.2.1 p.2.2, brCnt := 0, brAck := false, csrRdata := 0 }

/-- R128 to R146 on the memory: a write of the granted port in CYCLE is acknowledged and commits exactly the selected lanes
of the word at the latched address (none where the memory is read-only), and the latched address advances. The Bridge, not
selected, performs BR.IDLE (R123): counter, acknowledge and `csr_rdata` are cleared. Every other byte and every other element
keeps its value. Derived. -/
def Obligations.MemoryWriteBeatCommitsTheLanes : Prop :=
  ∀ (s : State) (m : Master) (adr : Adr) (sel : BitVec 4) (datW : Word), s.el.mem.wf = true → s.el.grant = m →
    selMem s.cfg adr = true → s.el.mcState = .cycle →
    ∀ p ∈ writeBeats m adr sel datW,
      ∃ t, exec p.1 s = .next t ∧ sameContext s t ∧
        (t.out.master m).ack = true ∧ (t.out.master m).err = false ∧
        (t.out.master m.other).ack = false ∧ (t.out.master m.other).err = false ∧
        t.el = { s.el with
          mcAdr := flatAdvance s.cfg s.el.mcAdr p.2.1 p.2.2, mem := t.el.mem, brCnt := 0, brAck := false, csrRdata := 0 } ∧
        ∀ a, t.el.mem.read a =
          if s.cfg.memWritable then mergedByte s.el.mem s.el.mcAdr.toNat sel datW a else s.el.mem.read a

/-- R123 on the register region: a strobed beat of the granted port performs the Bridge's operation of the clock cycle, is
acknowledged where `br_ack` stands, with the assembly register as data (without an acknowledge a model value, log entry 8); the
Memory Controller releases or idles. Derived. -/
def Obligations.RegisterBeatPerformsTheBridgeOperation : Prop :=
  ∀ (s : State) (m : Master) (adr : Adr) (sel : BitVec 4) (datW : Word), s.el.grant = m → selMem s.cfg adr = false →
    selCsr s.cfg adr = true →
    (∀ p ∈ readBeats m adr sel,
      ∃ t u, exec p.1 s = .next t ∧
        exec (decodeBR true s.el.brAck s.el.brCnt { adr := adr, sel := sel, we := false, datW := datW }) s = .next u ∧
        sameContext s t ∧ t.el = { u.el with mcState := .idle } ∧
        t.out.master m = { ack := s.el.brAck, err := false, datR := s.el.brDat } ∧
        (t.out.master m.other).ack = false ∧ (t.out.master m.other).err = false) ∧
    (∀ p ∈ writeBeats m adr sel datW,
      ∃ t u, exec p.1 s = .next t ∧
        exec (decodeBR true s.el.brAck s.el.brCnt { adr := adr, sel := sel, we := true, datW := datW }) s = .next u ∧
        sameContext s t ∧ t.el = { u.el with mcState := .idle } ∧
        t.out.master m = { ack := s.el.brAck, err := false, datR := s.el.brDat } ∧
        (t.out.master m.other).ack = false ∧ (t.out.master m.other).err = false)

/-- R129, R130, R139 to R146: constant-address, reserved and end-of-burst beats are identical in every respect to the classic
ones, granted or not, whatever the target. -/
def Obligations.NonIncrementingBeatsAreClassic : Prop :=
  ∀ (s : State) (m : Master) (adr : Adr) (sel : BitVec 4) (datW : Word),
    (∀ i ∈ [Instr.wbRdConst m adr sel, .wbRdRsvd3 m adr sel, .wbRdRsvd45 m adr sel, .wbRdRsvd6 m adr sel, .wbRdEob m adr sel],
      exec i s = exec (.wbRdClassic m adr sel) s) ∧
    (∀ i ∈ [Instr.wbWrConst m adr sel datW, .wbWrRsvd3 m adr sel datW, .wbWrRsvd45 m adr sel datW,
        .wbWrRsvd6 m adr sel datW, .wbWrEob m adr sel datW],
      exec i s = exec (.wbWrClassic m adr sel datW) s)

/-! ### Whole-machine rules -/

/-- Every operation completes: no operation of the fabric faults or refuses, on any operand, in any state, and none touches
the configuration, the inputs or the clock-cycle number. Derived from R105, R320 ("No exceptions exist at run time"). -/
def Obligations.EveryOperationCompletes : Prop :=
  ∀ (i : Instr) (s : State), ∃ t, exec i s = .next t ∧ sameContext s t

/-- The memory frame of every operation: it stores where `storeTarget` says, exactly the selected lanes of that word, and
every other byte (all of memory for an operation that stores nothing) reads as before. Derived from R10, R25, R84, R166. -/
def Obligations.OnlyWriteBeatsStoreToMemory : Prop :=
  ∀ (i : Instr) (s t : State), s.el.mem.wf = true → exec i s = .next t →
    ∀ a, t.el.mem.read a =
      match storeTarget s i with
      | none => s.el.mem.read a
      | some (idx, sel, v) => mergedByte s.el.mem idx sel v a

/-- R25, R166: in any clock cycle a byte of the memory changes only where the granted port's write beat is acknowledged from
the memory, the memory is writable, and the byte is a selected lane of the word at the latched address. Derived. -/
def Obligations.MemoryChangesOnlyOnItsAcknowledgeCycles : Prop :=
  ∀ (s t : State) (a : Nat), s.el.mem.wf = true → step s = .next t → t.el.mem.read a ≠ s.el.mem.read a →
    s.cfg.memWritable = true ∧ s.el.mcState = .cycle ∧ (t.out.master s.el.grant).ack = true ∧
    (s.requestAt s.el.grant 0).we = true ∧ selMem s.cfg (s.requestAt s.el.grant 0).adr = true ∧
    a / 4 = s.el.mcAdr.toNat ∧ (s.requestAt s.el.grant 0).sel.getLsbD (a % 4) = true

/-- R305: one clock cycle in which no master has `cyc` brings every component to rest, and the grant, the memory, the divisor
and the assembly register keep their values. Derived. -/
def Obligations.IdleClockCycleBringsRest : Prop :=
  ∀ s t : State, step s = .next t → (s.requestAt .m0 0).cyc = false → (s.requestAt .m1 0).cyc = false →
    t.quiescent s.nextRow ∧ t.el.grant = s.el.grant ∧ t.el.mem = s.el.mem ∧ t.el.mcAdr = s.el.mcAdr ∧
    t.el.divisor = s.el.divisor ∧ t.el.brDat = s.el.brDat

/-- R110, R122: the reference master keeps the obligations (a) and (b): it strobes only with `cyc`, and presents a beat that
was not answered unchanged in the next clock cycle. (g): a master whose program never writes, as the instruction port's (log
entry 22), drives `we` = 0 always. Derived. -/
def Obligations.ReferenceMasterHoldsItsBeat : Prop :=
  ∀ (r : RefMaster) (resp : Response),
    strobeNeedsCycle r.drive.request ∧ holdsBeat r.drive.request resp (r.observe resp).drive.request ∧
    (r.todo.all Stmt.readOnly = true →
      portNeverWrites r.drive.request ∧ (r.observe resp).todo.all Stmt.readOnly = true)
end

