-- ==== Sys2Proof/Laws/Memory.lean ====
section
/-! SUPPORT. The laws of the memory operations: a read after a write, and that every operation keeps the canonical form
and stays inside the array. -/

namespace Sys2Proof.Machine

@[simp] theorem Memory.read_nil (a : Nat) : Memory.read [] a = Memory.unlisted := rfl

theorem Memory.read_cons (k : Nat) (v : Byte) (rest : Memory) (a : Nat) :
    Memory.read ((k, v) :: rest) a = if k = a then v else Memory.read rest a := rfl

@[simp] theorem Memory.wf_nil : Memory.wf [] = true := rfl

/-- The canonical form, one entry at a time. -/
theorem Memory.wf_cons (k : Nat) (v : Byte) (rest : Memory) :
    Memory.wf ((k, v) :: rest) = true ↔
      v ≠ Memory.unlisted ∧ (∀ cell ∈ rest, k < cell.1) ∧ Memory.wf rest = true := by
  induction rest generalizing k v with
  | nil => simp [Memory.wf]
  | cons c rest ih =>
    obtain ⟨k', v'⟩ := c
    have hstep : Memory.wf ((k, v) :: (k', v') :: rest) = true ↔
        v ≠ Memory.unlisted ∧ k < k' ∧ Memory.wf ((k', v') :: rest) = true := by
      simp [Memory.wf, and_assoc]
    rw [hstep]
    constructor
    · rintro ⟨hv, hk, hw⟩
      refine ⟨hv, ?_, hw⟩
      intro cell hc
      rcases List.mem_cons.mp hc with rfl | hc
      · exact hk
      · exact hk.trans (((ih k' v').mp hw).2.1 cell hc)
    · rintro ⟨hv, hk, hw⟩
      exact ⟨hv, hk (k', v') (List.mem_cons_self ..), hw⟩

/-- An offset below every listed one is not listed. -/
theorem Memory.read_of_lt (m : Memory) (a : Nat) (h : ∀ cell ∈ m, a < cell.1) : Memory.read m a = Memory.unlisted := by
  induction m with
  | nil => rfl
  | cons c rest ih =>
    obtain ⟨k, v⟩ := c
    have hk := h (k, v) (List.mem_cons_self ..)
    rw [Memory.read_cons, if_neg (by simp at hk; omega)]
    exact ih (fun cell hc => h cell (List.mem_cons_of_mem _ hc))

/-- Every offset listed after a write was listed before, or is the one written. -/
theorem Memory.mem_write (m : Memory) (a : Nat) (b : Byte) :
    ∀ cell ∈ Memory.write m a b, cell.1 = a ∨ cell ∈ m := by
  induction m with
  | nil =>
    intro cell hc
    unfold Memory.write at hc
    split at hc <;> simp_all
  | cons c rest ih =>
    obtain ⟨k, v⟩ := c
    intro cell hc
    unfold Memory.write at hc
    split at hc
    · split at hc <;> simp_all
      rcases hc with rfl | h | h <;> simp_all
    · split at hc
      · split at hc <;> simp_all
        rcases hc with rfl | h <;> simp_all
      · rcases List.mem_cons.mp hc with rfl | hc
        · simp
        · rcases ih cell hc with h | h
          · exact .inl h
          · exact .inr (List.mem_cons_of_mem _ h)

/-- A byte write keeps the canonical form. -/
theorem Memory.write_wf (m : Memory) (a : Nat) (b : Byte) (h : m.wf = true) : (m.write a b).wf = true := by
  induction m with
  | nil =>
    unfold Memory.write
    split <;> simp_all [Memory.wf]
  | cons c rest ih =>
    obtain ⟨k, v⟩ := c
    have hw := (Memory.wf_cons k v rest).mp h
    unfold Memory.write
    split
    · rename_i hlt
      split
      · exact h
      · rename_i hb
        refine (Memory.wf_cons a b _).mpr ⟨hb, ?_, h⟩
        intro cell hc
        rcases List.mem_cons.mp hc with rfl | hc
        · exact hlt
        · exact hlt.trans (hw.2.1 cell hc)
    · split
      · rename_i heq
        split
        · exact hw.2.2
        · rename_i hb
          exact (Memory.wf_cons a b _).mpr ⟨hb, by rw [heq]; exact hw.2.1, hw.2.2⟩
      · refine (Memory.wf_cons k v _).mpr ⟨hw.1, ?_, ih hw.2.2⟩
        intro cell hc
        rcases Memory.mem_write rest a b cell hc with h' | h'
        · omega
        · exact hw.2.1 cell h'

/-- A byte write stays inside the array. -/
theorem Memory.write_bound (m : Memory) (a : Nat) (b : Byte) (n : Nat) (ha : a < n) (h : ∀ cell ∈ m, cell.1 < n) :
    ∀ cell ∈ m.write a b, cell.1 < n := by
  intro cell hc
  rcases Memory.mem_write m a b cell hc with h' | h'
  · omega
  · exact h cell h'

/-- What every offset reads as after a byte write. -/
theorem Memory.read_write (m : Memory) (a : Nat) (b : Byte) (h : m.wf = true) (x : Nat) :
    (m.write a b).read x = if x = a then b else m.read x := by
  induction m with
  | nil =>
    unfold Memory.write
    split
    · rename_i hb
      by_cases hx : x = a <;> simp [hx, hb]
    · rw [Memory.read_cons]
      by_cases hx : x = a
      · simp [hx]
      · rw [if_neg (fun e => hx e.symm), if_neg hx]
  | cons c rest ih =>
    obtain ⟨k, v⟩ := c
    have hw := (Memory.wf_cons k v rest).mp h
    unfold Memory.write
    split
    · rename_i hlt
      have hun : Memory.read ((k, v) :: rest) a = Memory.unlisted := by
        apply Memory.read_of_lt
        intro cell hc
        rcases List.mem_cons.mp hc with rfl | hc
        · exact hlt
        · exact hlt.trans (hw.2.1 cell hc)
      split
      · rename_i hb
        by_cases hx : x = a
        · subst hx
          rw [if_pos rfl, hun, hb]
        · rw [if_neg hx]
      · rw [Memory.read_cons]
        by_cases hx : x = a
        · simp [hx]
        · rw [if_neg (fun e => hx e.symm), if_neg hx]
    · split
      · rename_i heq
        subst heq
        split
        · rename_i hb
          by_cases hx : x = a
          · subst hx
            rw [if_pos rfl, Memory.read_of_lt rest x hw.2.1, hb]
          · rw [if_neg hx, Memory.read_cons, if_neg (fun e => hx e.symm)]
        · rw [Memory.read_cons, Memory.read_cons]
          by_cases hx : x = a
          · simp [hx]
          · rw [if_neg (fun e => hx e.symm), if_neg hx, if_neg (fun e => hx e.symm)]
      · rename_i hne
        rw [Memory.read_cons, Memory.read_cons, ih hw.2.2]
        by_cases hk : k = x
        · subst hk
          rw [if_pos rfl, if_pos rfl, if_neg (fun e => hne e.symm)]
        · rw [if_neg hk, if_neg hk]

/-- The byte just written is read back. -/
theorem Memory.read_write_same (m : Memory) (a : Nat) (b : Byte) (h : m.wf = true) : (m.write a b).read a = b := by
  rw [Memory.read_write m a b h, if_pos rfl]

/-- Every other byte keeps its value. -/
theorem Memory.read_write_other (m : Memory) (a : Nat) (b : Byte) (h : m.wf = true) (x : Nat) (hx : x ≠ a) :
    (m.write a b).read x = m.read x := by
  rw [Memory.read_write m a b h, if_neg hx]

/-- One lane of a word write keeps the canonical form. -/
theorem Memory.writeLane_wf (m : Memory) (i : Nat) (sel : BitVec 4) (v : Word) (k : Nat) (h : m.wf = true) :
    (m.writeLane i sel v k).wf = true := by
  unfold Memory.writeLane
  split
  · exact Memory.write_wf _ _ _ h
  · exact h

/-- A word write keeps the canonical form. -/
theorem Memory.writeWord_wf (m : Memory) (i : Nat) (sel : BitVec 4) (v : Word) (h : m.wf = true) :
    (m.writeWord i sel v).wf = true := by
  unfold Memory.writeWord
  exact Memory.writeLane_wf _ _ _ _ _ (Memory.writeLane_wf _ _ _ _ _ (Memory.writeLane_wf _ _ _ _ _
    (Memory.writeLane_wf _ _ _ _ _ h)))

/-- One lane of a word write stays inside the array. -/
theorem Memory.writeLane_bound (m : Memory) (i : Nat) (sel : BitVec 4) (v : Word) (k n : Nat) (hk : 4 * i + k < n)
    (h : ∀ cell ∈ m, cell.1 < n) : ∀ cell ∈ m.writeLane i sel v k, cell.1 < n := by
  unfold Memory.writeLane
  split
  · exact Memory.write_bound _ _ _ _ hk h
  · exact h

/-- A word write stays inside the array. -/
theorem Memory.writeWord_bound (m : Memory) (i : Nat) (sel : BitVec 4) (v : Word) (n : Nat) (hi : 4 * i + 4 ≤ n)
    (h : ∀ cell ∈ m, cell.1 < n) : ∀ cell ∈ m.writeWord i sel v, cell.1 < n := by
  unfold Memory.writeWord
  refine Memory.writeLane_bound _ _ _ _ _ _ (by omega) ?_
  refine Memory.writeLane_bound _ _ _ _ _ _ (by omega) ?_
  refine Memory.writeLane_bound _ _ _ _ _ _ (by omega) ?_
  exact Memory.writeLane_bound _ _ _ _ _ _ (by omega) h

/-- What every offset reads as after one lane of a word write. -/
theorem Memory.read_writeLane (m : Memory) (i : Nat) (sel : BitVec 4) (v : Word) (k : Nat) (h : m.wf = true) (x : Nat) :
    (m.writeLane i sel v k).read x = if x = 4 * i + k ∧ sel.getLsbD k then v.extractLsb' (8 * k) 8 else m.read x := by
  unfold Memory.writeLane
  split
  · rename_i hs
    rw [Memory.read_write _ _ _ h]
    simp [hs]
  · rename_i hs
    simp [hs]

/-- An initial image keeps the canonical form. -/
theorem Memory.writeImage_wf (m : Memory) (i : Nat) (ws : List Word) (h : m.wf = true) :
    (m.writeImage i ws).wf = true := by
  induction ws generalizing m i with
  | nil => exact h
  | cons w ws ih =>
    unfold Memory.writeImage
    exact ih _ _ (Memory.write_wf _ _ _ (Memory.write_wf _ _ _ (Memory.write_wf _ _ _ (Memory.write_wf _ _ _ h))))

/-- An initial image stays inside the array. -/
theorem Memory.writeImage_bound (m : Memory) (i : Nat) (ws : List Word) (n : Nat) (hn : 4 * (i + ws.length) ≤ n)
    (h : ∀ cell ∈ m, cell.1 < n) : ∀ cell ∈ m.writeImage i ws, cell.1 < n := by
  induction ws generalizing m i with
  | nil => exact h
  | cons w ws ih =>
    unfold Memory.writeImage
    simp only [List.length_cons] at hn
    refine ih _ _ (by omega) ?_
    refine Memory.write_bound _ _ _ _ (by omega) ?_
    refine Memory.write_bound _ _ _ _ (by omega) ?_
    refine Memory.write_bound _ _ _ _ (by omega) ?_
    exact Memory.write_bound _ _ _ _ (by omega) h

end Sys2Proof.Machine
end

