-- ==== Sys2Proof/Laws/State.lean ====
section
/-! SUPPORT. One lemma for each field after each update of State, true by rfl: no proof unfolds a record update. -/

namespace Sys2Proof.Machine

theorem State.setGrant_el (s : State) (v : Master) : (s.setGrant v).el = { s.el with grant := v } := rfl
@[simp] theorem State.setGrant_grant (s : State) (v : Master) : (s.setGrant v).el.grant = v := rfl
@[simp] theorem State.setGrant_mcState (s : State) (v : Master) : (s.setGrant v).el.mcState = s.el.mcState := rfl
@[simp] theorem State.setGrant_mcAdr (s : State) (v : Master) : (s.setGrant v).el.mcAdr = s.el.mcAdr := rfl
@[simp] theorem State.setGrant_mem (s : State) (v : Master) : (s.setGrant v).el.mem = s.el.mem := rfl
@[simp] theorem State.setGrant_brDat (s : State) (v : Master) : (s.setGrant v).el.brDat = s.el.brDat := rfl
@[simp] theorem State.setGrant_brAck (s : State) (v : Master) : (s.setGrant v).el.brAck = s.el.brAck := rfl
@[simp] theorem State.setGrant_brCnt (s : State) (v : Master) : (s.setGrant v).el.brCnt = s.el.brCnt := rfl
@[simp] theorem State.setGrant_csrRdata (s : State) (v : Master) : (s.setGrant v).el.csrRdata = s.el.csrRdata := rfl
@[simp] theorem State.setGrant_divisor (s : State) (v : Master) : (s.setGrant v).el.divisor = s.el.divisor := rfl
@[simp] theorem State.setGrant_rxFifo (s : State) (v : Master) : (s.setGrant v).el.rxFifo = s.el.rxFifo := rfl
@[simp] theorem State.setGrant_txFifo (s : State) (v : Master) : (s.setGrant v).el.txFifo = s.el.txFifo := rfl
@[simp] theorem State.setGrant_rxVis (s : State) (v : Master) : (s.setGrant v).el.rxVis = s.el.rxVis := rfl
@[simp] theorem State.setGrant_txVis (s : State) (v : Master) : (s.setGrant v).el.txVis = s.el.txVis := rfl
@[simp] theorem State.setGrant_cfg (s : State) (v : Master) : (s.setGrant v).cfg = s.cfg := rfl
@[simp] theorem State.setGrant_script (s : State) (v : Master) : (s.setGrant v).script = s.script := rfl
@[simp] theorem State.setGrant_inp (s : State) (v : Master) : (s.setGrant v).inp = s.inp := rfl
@[simp] theorem State.setGrant_out (s : State) (v : Master) : (s.setGrant v).out = s.out := rfl
@[simp] theorem State.setGrant_wires (s : State) (v : Master) : (s.setGrant v).wires = s.wires := rfl
@[simp] theorem State.setGrant_tick (s : State) (v : Master) : (s.setGrant v).tick = s.tick := rfl

theorem State.setMcState_el (s : State) (v : McState) : (s.setMcState v).el = { s.el with mcState := v } := rfl
@[simp] theorem State.setMcState_grant (s : State) (v : McState) : (s.setMcState v).el.grant = s.el.grant := rfl
@[simp] theorem State.setMcState_mcState (s : State) (v : McState) : (s.setMcState v).el.mcState = v := rfl
@[simp] theorem State.setMcState_mcAdr (s : State) (v : McState) : (s.setMcState v).el.mcAdr = s.el.mcAdr := rfl
@[simp] theorem State.setMcState_mem (s : State) (v : McState) : (s.setMcState v).el.mem = s.el.mem := rfl
@[simp] theorem State.setMcState_brDat (s : State) (v : McState) : (s.setMcState v).el.brDat = s.el.brDat := rfl
@[simp] theorem State.setMcState_brAck (s : State) (v : McState) : (s.setMcState v).el.brAck = s.el.brAck := rfl
@[simp] theorem State.setMcState_brCnt (s : State) (v : McState) : (s.setMcState v).el.brCnt = s.el.brCnt := rfl
@[simp] theorem State.setMcState_csrRdata (s : State) (v : McState) : (s.setMcState v).el.csrRdata = s.el.csrRdata := rfl
@[simp] theorem State.setMcState_divisor (s : State) (v : McState) : (s.setMcState v).el.divisor = s.el.divisor := rfl
@[simp] theorem State.setMcState_rxFifo (s : State) (v : McState) : (s.setMcState v).el.rxFifo = s.el.rxFifo := rfl
@[simp] theorem State.setMcState_txFifo (s : State) (v : McState) : (s.setMcState v).el.txFifo = s.el.txFifo := rfl
@[simp] theorem State.setMcState_rxVis (s : State) (v : McState) : (s.setMcState v).el.rxVis = s.el.rxVis := rfl
@[simp] theorem State.setMcState_txVis (s : State) (v : McState) : (s.setMcState v).el.txVis = s.el.txVis := rfl
@[simp] theorem State.setMcState_cfg (s : State) (v : McState) : (s.setMcState v).cfg = s.cfg := rfl
@[simp] theorem State.setMcState_script (s : State) (v : McState) : (s.setMcState v).script = s.script := rfl
@[simp] theorem State.setMcState_inp (s : State) (v : McState) : (s.setMcState v).inp = s.inp := rfl
@[simp] theorem State.setMcState_out (s : State) (v : McState) : (s.setMcState v).out = s.out := rfl
@[simp] theorem State.setMcState_wires (s : State) (v : McState) : (s.setMcState v).wires = s.wires := rfl
@[simp] theorem State.setMcState_tick (s : State) (v : McState) : (s.setMcState v).tick = s.tick := rfl

theorem State.setMcAdr_el (s : State) (v : Index) : (s.setMcAdr v).el = { s.el with mcAdr := v } := rfl
@[simp] theorem State.setMcAdr_grant (s : State) (v : Index) : (s.setMcAdr v).el.grant = s.el.grant := rfl
@[simp] theorem State.setMcAdr_mcState (s : State) (v : Index) : (s.setMcAdr v).el.mcState = s.el.mcState := rfl
@[simp] theorem State.setMcAdr_mcAdr (s : State) (v : Index) : (s.setMcAdr v).el.mcAdr = v := rfl
@[simp] theorem State.setMcAdr_mem (s : State) (v : Index) : (s.setMcAdr v).el.mem = s.el.mem := rfl
@[simp] theorem State.setMcAdr_brDat (s : State) (v : Index) : (s.setMcAdr v).el.brDat = s.el.brDat := rfl
@[simp] theorem State.setMcAdr_brAck (s : State) (v : Index) : (s.setMcAdr v).el.brAck = s.el.brAck := rfl
@[simp] theorem State.setMcAdr_brCnt (s : State) (v : Index) : (s.setMcAdr v).el.brCnt = s.el.brCnt := rfl
@[simp] theorem State.setMcAdr_csrRdata (s : State) (v : Index) : (s.setMcAdr v).el.csrRdata = s.el.csrRdata := rfl
@[simp] theorem State.setMcAdr_divisor (s : State) (v : Index) : (s.setMcAdr v).el.divisor = s.el.divisor := rfl
@[simp] theorem State.setMcAdr_rxFifo (s : State) (v : Index) : (s.setMcAdr v).el.rxFifo = s.el.rxFifo := rfl
@[simp] theorem State.setMcAdr_txFifo (s : State) (v : Index) : (s.setMcAdr v).el.txFifo = s.el.txFifo := rfl
@[simp] theorem State.setMcAdr_rxVis (s : State) (v : Index) : (s.setMcAdr v).el.rxVis = s.el.rxVis := rfl
@[simp] theorem State.setMcAdr_txVis (s : State) (v : Index) : (s.setMcAdr v).el.txVis = s.el.txVis := rfl
@[simp] theorem State.setMcAdr_cfg (s : State) (v : Index) : (s.setMcAdr v).cfg = s.cfg := rfl
@[simp] theorem State.setMcAdr_script (s : State) (v : Index) : (s.setMcAdr v).script = s.script := rfl
@[simp] theorem State.setMcAdr_inp (s : State) (v : Index) : (s.setMcAdr v).inp = s.inp := rfl
@[simp] theorem State.setMcAdr_out (s : State) (v : Index) : (s.setMcAdr v).out = s.out := rfl
@[simp] theorem State.setMcAdr_wires (s : State) (v : Index) : (s.setMcAdr v).wires = s.wires := rfl
@[simp] theorem State.setMcAdr_tick (s : State) (v : Index) : (s.setMcAdr v).tick = s.tick := rfl

theorem State.setMem_el (s : State) (v : Memory) : (s.setMem v).el = { s.el with mem := v } := rfl
@[simp] theorem State.setMem_grant (s : State) (v : Memory) : (s.setMem v).el.grant = s.el.grant := rfl
@[simp] theorem State.setMem_mcState (s : State) (v : Memory) : (s.setMem v).el.mcState = s.el.mcState := rfl
@[simp] theorem State.setMem_mcAdr (s : State) (v : Memory) : (s.setMem v).el.mcAdr = s.el.mcAdr := rfl
@[simp] theorem State.setMem_mem (s : State) (v : Memory) : (s.setMem v).el.mem = v := rfl
@[simp] theorem State.setMem_brDat (s : State) (v : Memory) : (s.setMem v).el.brDat = s.el.brDat := rfl
@[simp] theorem State.setMem_brAck (s : State) (v : Memory) : (s.setMem v).el.brAck = s.el.brAck := rfl
@[simp] theorem State.setMem_brCnt (s : State) (v : Memory) : (s.setMem v).el.brCnt = s.el.brCnt := rfl
@[simp] theorem State.setMem_csrRdata (s : State) (v : Memory) : (s.setMem v).el.csrRdata = s.el.csrRdata := rfl
@[simp] theorem State.setMem_divisor (s : State) (v : Memory) : (s.setMem v).el.divisor = s.el.divisor := rfl
@[simp] theorem State.setMem_rxFifo (s : State) (v : Memory) : (s.setMem v).el.rxFifo = s.el.rxFifo := rfl
@[simp] theorem State.setMem_txFifo (s : State) (v : Memory) : (s.setMem v).el.txFifo = s.el.txFifo := rfl
@[simp] theorem State.setMem_rxVis (s : State) (v : Memory) : (s.setMem v).el.rxVis = s.el.rxVis := rfl
@[simp] theorem State.setMem_txVis (s : State) (v : Memory) : (s.setMem v).el.txVis = s.el.txVis := rfl
@[simp] theorem State.setMem_cfg (s : State) (v : Memory) : (s.setMem v).cfg = s.cfg := rfl
@[simp] theorem State.setMem_script (s : State) (v : Memory) : (s.setMem v).script = s.script := rfl
@[simp] theorem State.setMem_inp (s : State) (v : Memory) : (s.setMem v).inp = s.inp := rfl
@[simp] theorem State.setMem_out (s : State) (v : Memory) : (s.setMem v).out = s.out := rfl
@[simp] theorem State.setMem_wires (s : State) (v : Memory) : (s.setMem v).wires = s.wires := rfl
@[simp] theorem State.setMem_tick (s : State) (v : Memory) : (s.setMem v).tick = s.tick := rfl

theorem State.setBrDat_el (s : State) (v : Word) : (s.setBrDat v).el = { s.el with brDat := v } := rfl
@[simp] theorem State.setBrDat_grant (s : State) (v : Word) : (s.setBrDat v).el.grant = s.el.grant := rfl
@[simp] theorem State.setBrDat_mcState (s : State) (v : Word) : (s.setBrDat v).el.mcState = s.el.mcState := rfl
@[simp] theorem State.setBrDat_mcAdr (s : State) (v : Word) : (s.setBrDat v).el.mcAdr = s.el.mcAdr := rfl
@[simp] theorem State.setBrDat_mem (s : State) (v : Word) : (s.setBrDat v).el.mem = s.el.mem := rfl
@[simp] theorem State.setBrDat_brDat (s : State) (v : Word) : (s.setBrDat v).el.brDat = v := rfl
@[simp] theorem State.setBrDat_brAck (s : State) (v : Word) : (s.setBrDat v).el.brAck = s.el.brAck := rfl
@[simp] theorem State.setBrDat_brCnt (s : State) (v : Word) : (s.setBrDat v).el.brCnt = s.el.brCnt := rfl
@[simp] theorem State.setBrDat_csrRdata (s : State) (v : Word) : (s.setBrDat v).el.csrRdata = s.el.csrRdata := rfl
@[simp] theorem State.setBrDat_divisor (s : State) (v : Word) : (s.setBrDat v).el.divisor = s.el.divisor := rfl
@[simp] theorem State.setBrDat_rxFifo (s : State) (v : Word) : (s.setBrDat v).el.rxFifo = s.el.rxFifo := rfl
@[simp] theorem State.setBrDat_txFifo (s : State) (v : Word) : (s.setBrDat v).el.txFifo = s.el.txFifo := rfl
@[simp] theorem State.setBrDat_rxVis (s : State) (v : Word) : (s.setBrDat v).el.rxVis = s.el.rxVis := rfl
@[simp] theorem State.setBrDat_txVis (s : State) (v : Word) : (s.setBrDat v).el.txVis = s.el.txVis := rfl
@[simp] theorem State.setBrDat_cfg (s : State) (v : Word) : (s.setBrDat v).cfg = s.cfg := rfl
@[simp] theorem State.setBrDat_script (s : State) (v : Word) : (s.setBrDat v).script = s.script := rfl
@[simp] theorem State.setBrDat_inp (s : State) (v : Word) : (s.setBrDat v).inp = s.inp := rfl
@[simp] theorem State.setBrDat_out (s : State) (v : Word) : (s.setBrDat v).out = s.out := rfl
@[simp] theorem State.setBrDat_wires (s : State) (v : Word) : (s.setBrDat v).wires = s.wires := rfl
@[simp] theorem State.setBrDat_tick (s : State) (v : Word) : (s.setBrDat v).tick = s.tick := rfl

theorem State.setBrAck_el (s : State) (v : Bool) : (s.setBrAck v).el = { s.el with brAck := v } := rfl
@[simp] theorem State.setBrAck_grant (s : State) (v : Bool) : (s.setBrAck v).el.grant = s.el.grant := rfl
@[simp] theorem State.setBrAck_mcState (s : State) (v : Bool) : (s.setBrAck v).el.mcState = s.el.mcState := rfl
@[simp] theorem State.setBrAck_mcAdr (s : State) (v : Bool) : (s.setBrAck v).el.mcAdr = s.el.mcAdr := rfl
@[simp] theorem State.setBrAck_mem (s : State) (v : Bool) : (s.setBrAck v).el.mem = s.el.mem := rfl
@[simp] theorem State.setBrAck_brDat (s : State) (v : Bool) : (s.setBrAck v).el.brDat = s.el.brDat := rfl
@[simp] theorem State.setBrAck_brAck (s : State) (v : Bool) : (s.setBrAck v).el.brAck = v := rfl
@[simp] theorem State.setBrAck_brCnt (s : State) (v : Bool) : (s.setBrAck v).el.brCnt = s.el.brCnt := rfl
@[simp] theorem State.setBrAck_csrRdata (s : State) (v : Bool) : (s.setBrAck v).el.csrRdata = s.el.csrRdata := rfl
@[simp] theorem State.setBrAck_divisor (s : State) (v : Bool) : (s.setBrAck v).el.divisor = s.el.divisor := rfl
@[simp] theorem State.setBrAck_rxFifo (s : State) (v : Bool) : (s.setBrAck v).el.rxFifo = s.el.rxFifo := rfl
@[simp] theorem State.setBrAck_txFifo (s : State) (v : Bool) : (s.setBrAck v).el.txFifo = s.el.txFifo := rfl
@[simp] theorem State.setBrAck_rxVis (s : State) (v : Bool) : (s.setBrAck v).el.rxVis = s.el.rxVis := rfl
@[simp] theorem State.setBrAck_txVis (s : State) (v : Bool) : (s.setBrAck v).el.txVis = s.el.txVis := rfl
@[simp] theorem State.setBrAck_cfg (s : State) (v : Bool) : (s.setBrAck v).cfg = s.cfg := rfl
@[simp] theorem State.setBrAck_script (s : State) (v : Bool) : (s.setBrAck v).script = s.script := rfl
@[simp] theorem State.setBrAck_inp (s : State) (v : Bool) : (s.setBrAck v).inp = s.inp := rfl
@[simp] theorem State.setBrAck_out (s : State) (v : Bool) : (s.setBrAck v).out = s.out := rfl
@[simp] theorem State.setBrAck_wires (s : State) (v : Bool) : (s.setBrAck v).wires = s.wires := rfl
@[simp] theorem State.setBrAck_tick (s : State) (v : Bool) : (s.setBrAck v).tick = s.tick := rfl

theorem State.setBrCnt_el (s : State) (v : BitVec 3) : (s.setBrCnt v).el = { s.el with brCnt := v } := rfl
@[simp] theorem State.setBrCnt_grant (s : State) (v : BitVec 3) : (s.setBrCnt v).el.grant = s.el.grant := rfl
@[simp] theorem State.setBrCnt_mcState (s : State) (v : BitVec 3) : (s.setBrCnt v).el.mcState = s.el.mcState := rfl
@[simp] theorem State.setBrCnt_mcAdr (s : State) (v : BitVec 3) : (s.setBrCnt v).el.mcAdr = s.el.mcAdr := rfl
@[simp] theorem State.setBrCnt_mem (s : State) (v : BitVec 3) : (s.setBrCnt v).el.mem = s.el.mem := rfl
@[simp] theorem State.setBrCnt_brDat (s : State) (v : BitVec 3) : (s.setBrCnt v).el.brDat = s.el.brDat := rfl
@[simp] theorem State.setBrCnt_brAck (s : State) (v : BitVec 3) : (s.setBrCnt v).el.brAck = s.el.brAck := rfl
@[simp] theorem State.setBrCnt_brCnt (s : State) (v : BitVec 3) : (s.setBrCnt v).el.brCnt = v := rfl
@[simp] theorem State.setBrCnt_csrRdata (s : State) (v : BitVec 3) : (s.setBrCnt v).el.csrRdata = s.el.csrRdata := rfl
@[simp] theorem State.setBrCnt_divisor (s : State) (v : BitVec 3) : (s.setBrCnt v).el.divisor = s.el.divisor := rfl
@[simp] theorem State.setBrCnt_rxFifo (s : State) (v : BitVec 3) : (s.setBrCnt v).el.rxFifo = s.el.rxFifo := rfl
@[simp] theorem State.setBrCnt_txFifo (s : State) (v : BitVec 3) : (s.setBrCnt v).el.txFifo = s.el.txFifo := rfl
@[simp] theorem State.setBrCnt_rxVis (s : State) (v : BitVec 3) : (s.setBrCnt v).el.rxVis = s.el.rxVis := rfl
@[simp] theorem State.setBrCnt_txVis (s : State) (v : BitVec 3) : (s.setBrCnt v).el.txVis = s.el.txVis := rfl
@[simp] theorem State.setBrCnt_cfg (s : State) (v : BitVec 3) : (s.setBrCnt v).cfg = s.cfg := rfl
@[simp] theorem State.setBrCnt_script (s : State) (v : BitVec 3) : (s.setBrCnt v).script = s.script := rfl
@[simp] theorem State.setBrCnt_inp (s : State) (v : BitVec 3) : (s.setBrCnt v).inp = s.inp := rfl
@[simp] theorem State.setBrCnt_out (s : State) (v : BitVec 3) : (s.setBrCnt v).out = s.out := rfl
@[simp] theorem State.setBrCnt_wires (s : State) (v : BitVec 3) : (s.setBrCnt v).wires = s.wires := rfl
@[simp] theorem State.setBrCnt_tick (s : State) (v : BitVec 3) : (s.setBrCnt v).tick = s.tick := rfl

theorem State.setCsrRdata_el (s : State) (v : Byte) : (s.setCsrRdata v).el = { s.el with csrRdata := v } := rfl
@[simp] theorem State.setCsrRdata_grant (s : State) (v : Byte) : (s.setCsrRdata v).el.grant = s.el.grant := rfl
@[simp] theorem State.setCsrRdata_mcState (s : State) (v : Byte) : (s.setCsrRdata v).el.mcState = s.el.mcState := rfl
@[simp] theorem State.setCsrRdata_mcAdr (s : State) (v : Byte) : (s.setCsrRdata v).el.mcAdr = s.el.mcAdr := rfl
@[simp] theorem State.setCsrRdata_mem (s : State) (v : Byte) : (s.setCsrRdata v).el.mem = s.el.mem := rfl
@[simp] theorem State.setCsrRdata_brDat (s : State) (v : Byte) : (s.setCsrRdata v).el.brDat = s.el.brDat := rfl
@[simp] theorem State.setCsrRdata_brAck (s : State) (v : Byte) : (s.setCsrRdata v).el.brAck = s.el.brAck := rfl
@[simp] theorem State.setCsrRdata_brCnt (s : State) (v : Byte) : (s.setCsrRdata v).el.brCnt = s.el.brCnt := rfl
@[simp] theorem State.setCsrRdata_csrRdata (s : State) (v : Byte) : (s.setCsrRdata v).el.csrRdata = v := rfl
@[simp] theorem State.setCsrRdata_divisor (s : State) (v : Byte) : (s.setCsrRdata v).el.divisor = s.el.divisor := rfl
@[simp] theorem State.setCsrRdata_rxFifo (s : State) (v : Byte) : (s.setCsrRdata v).el.rxFifo = s.el.rxFifo := rfl
@[simp] theorem State.setCsrRdata_txFifo (s : State) (v : Byte) : (s.setCsrRdata v).el.txFifo = s.el.txFifo := rfl
@[simp] theorem State.setCsrRdata_rxVis (s : State) (v : Byte) : (s.setCsrRdata v).el.rxVis = s.el.rxVis := rfl
@[simp] theorem State.setCsrRdata_txVis (s : State) (v : Byte) : (s.setCsrRdata v).el.txVis = s.el.txVis := rfl
@[simp] theorem State.setCsrRdata_cfg (s : State) (v : Byte) : (s.setCsrRdata v).cfg = s.cfg := rfl
@[simp] theorem State.setCsrRdata_script (s : State) (v : Byte) : (s.setCsrRdata v).script = s.script := rfl
@[simp] theorem State.setCsrRdata_inp (s : State) (v : Byte) : (s.setCsrRdata v).inp = s.inp := rfl
@[simp] theorem State.setCsrRdata_out (s : State) (v : Byte) : (s.setCsrRdata v).out = s.out := rfl
@[simp] theorem State.setCsrRdata_wires (s : State) (v : Byte) : (s.setCsrRdata v).wires = s.wires := rfl
@[simp] theorem State.setCsrRdata_tick (s : State) (v : Byte) : (s.setCsrRdata v).tick = s.tick := rfl

theorem State.setDivisor_el (s : State) (v : Word) : (s.setDivisor v).el = { s.el with divisor := v } := rfl
@[simp] theorem State.setDivisor_grant (s : State) (v : Word) : (s.setDivisor v).el.grant = s.el.grant := rfl
@[simp] theorem State.setDivisor_mcState (s : State) (v : Word) : (s.setDivisor v).el.mcState = s.el.mcState := rfl
@[simp] theorem State.setDivisor_mcAdr (s : State) (v : Word) : (s.setDivisor v).el.mcAdr = s.el.mcAdr := rfl
@[simp] theorem State.setDivisor_mem (s : State) (v : Word) : (s.setDivisor v).el.mem = s.el.mem := rfl
@[simp] theorem State.setDivisor_brDat (s : State) (v : Word) : (s.setDivisor v).el.brDat = s.el.brDat := rfl
@[simp] theorem State.setDivisor_brAck (s : State) (v : Word) : (s.setDivisor v).el.brAck = s.el.brAck := rfl
@[simp] theorem State.setDivisor_brCnt (s : State) (v : Word) : (s.setDivisor v).el.brCnt = s.el.brCnt := rfl
@[simp] theorem State.setDivisor_csrRdata (s : State) (v : Word) : (s.setDivisor v).el.csrRdata = s.el.csrRdata := rfl
@[simp] theorem State.setDivisor_divisor (s : State) (v : Word) : (s.setDivisor v).el.divisor = v := rfl
@[simp] theorem State.setDivisor_rxFifo (s : State) (v : Word) : (s.setDivisor v).el.rxFifo = s.el.rxFifo := rfl
@[simp] theorem State.setDivisor_txFifo (s : State) (v : Word) : (s.setDivisor v).el.txFifo = s.el.txFifo := rfl
@[simp] theorem State.setDivisor_rxVis (s : State) (v : Word) : (s.setDivisor v).el.rxVis = s.el.rxVis := rfl
@[simp] theorem State.setDivisor_txVis (s : State) (v : Word) : (s.setDivisor v).el.txVis = s.el.txVis := rfl
@[simp] theorem State.setDivisor_cfg (s : State) (v : Word) : (s.setDivisor v).cfg = s.cfg := rfl
@[simp] theorem State.setDivisor_script (s : State) (v : Word) : (s.setDivisor v).script = s.script := rfl
@[simp] theorem State.setDivisor_inp (s : State) (v : Word) : (s.setDivisor v).inp = s.inp := rfl
@[simp] theorem State.setDivisor_out (s : State) (v : Word) : (s.setDivisor v).out = s.out := rfl
@[simp] theorem State.setDivisor_wires (s : State) (v : Word) : (s.setDivisor v).wires = s.wires := rfl
@[simp] theorem State.setDivisor_tick (s : State) (v : Word) : (s.setDivisor v).tick = s.tick := rfl

theorem State.setRxFifo_el (s : State) (v : List RxEntry) : (s.setRxFifo v).el = { s.el with rxFifo := v } := rfl
@[simp] theorem State.setRxFifo_grant (s : State) (v : List RxEntry) : (s.setRxFifo v).el.grant = s.el.grant := rfl
@[simp] theorem State.setRxFifo_mcState (s : State) (v : List RxEntry) : (s.setRxFifo v).el.mcState = s.el.mcState := rfl
@[simp] theorem State.setRxFifo_mcAdr (s : State) (v : List RxEntry) : (s.setRxFifo v).el.mcAdr = s.el.mcAdr := rfl
@[simp] theorem State.setRxFifo_mem (s : State) (v : List RxEntry) : (s.setRxFifo v).el.mem = s.el.mem := rfl
@[simp] theorem State.setRxFifo_brDat (s : State) (v : List RxEntry) : (s.setRxFifo v).el.brDat = s.el.brDat := rfl
@[simp] theorem State.setRxFifo_brAck (s : State) (v : List RxEntry) : (s.setRxFifo v).el.brAck = s.el.brAck := rfl
@[simp] theorem State.setRxFifo_brCnt (s : State) (v : List RxEntry) : (s.setRxFifo v).el.brCnt = s.el.brCnt := rfl
@[simp] theorem State.setRxFifo_csrRdata (s : State) (v : List RxEntry) : (s.setRxFifo v).el.csrRdata = s.el.csrRdata := rfl
@[simp] theorem State.setRxFifo_divisor (s : State) (v : List RxEntry) : (s.setRxFifo v).el.divisor = s.el.divisor := rfl
@[simp] theorem State.setRxFifo_rxFifo (s : State) (v : List RxEntry) : (s.setRxFifo v).el.rxFifo = v := rfl
@[simp] theorem State.setRxFifo_txFifo (s : State) (v : List RxEntry) : (s.setRxFifo v).el.txFifo = s.el.txFifo := rfl
@[simp] theorem State.setRxFifo_rxVis (s : State) (v : List RxEntry) : (s.setRxFifo v).el.rxVis = s.el.rxVis := rfl
@[simp] theorem State.setRxFifo_txVis (s : State) (v : List RxEntry) : (s.setRxFifo v).el.txVis = s.el.txVis := rfl
@[simp] theorem State.setRxFifo_cfg (s : State) (v : List RxEntry) : (s.setRxFifo v).cfg = s.cfg := rfl
@[simp] theorem State.setRxFifo_script (s : State) (v : List RxEntry) : (s.setRxFifo v).script = s.script := rfl
@[simp] theorem State.setRxFifo_inp (s : State) (v : List RxEntry) : (s.setRxFifo v).inp = s.inp := rfl
@[simp] theorem State.setRxFifo_out (s : State) (v : List RxEntry) : (s.setRxFifo v).out = s.out := rfl
@[simp] theorem State.setRxFifo_wires (s : State) (v : List RxEntry) : (s.setRxFifo v).wires = s.wires := rfl
@[simp] theorem State.setRxFifo_tick (s : State) (v : List RxEntry) : (s.setRxFifo v).tick = s.tick := rfl

theorem State.setTxFifo_el (s : State) (v : List TxEntry) : (s.setTxFifo v).el = { s.el with txFifo := v } := rfl
@[simp] theorem State.setTxFifo_grant (s : State) (v : List TxEntry) : (s.setTxFifo v).el.grant = s.el.grant := rfl
@[simp] theorem State.setTxFifo_mcState (s : State) (v : List TxEntry) : (s.setTxFifo v).el.mcState = s.el.mcState := rfl
@[simp] theorem State.setTxFifo_mcAdr (s : State) (v : List TxEntry) : (s.setTxFifo v).el.mcAdr = s.el.mcAdr := rfl
@[simp] theorem State.setTxFifo_mem (s : State) (v : List TxEntry) : (s.setTxFifo v).el.mem = s.el.mem := rfl
@[simp] theorem State.setTxFifo_brDat (s : State) (v : List TxEntry) : (s.setTxFifo v).el.brDat = s.el.brDat := rfl
@[simp] theorem State.setTxFifo_brAck (s : State) (v : List TxEntry) : (s.setTxFifo v).el.brAck = s.el.brAck := rfl
@[simp] theorem State.setTxFifo_brCnt (s : State) (v : List TxEntry) : (s.setTxFifo v).el.brCnt = s.el.brCnt := rfl
@[simp] theorem State.setTxFifo_csrRdata (s : State) (v : List TxEntry) : (s.setTxFifo v).el.csrRdata = s.el.csrRdata := rfl
@[simp] theorem State.setTxFifo_divisor (s : State) (v : List TxEntry) : (s.setTxFifo v).el.divisor = s.el.divisor := rfl
@[simp] theorem State.setTxFifo_rxFifo (s : State) (v : List TxEntry) : (s.setTxFifo v).el.rxFifo = s.el.rxFifo := rfl
@[simp] theorem State.setTxFifo_txFifo (s : State) (v : List TxEntry) : (s.setTxFifo v).el.txFifo = v := rfl
@[simp] theorem State.setTxFifo_rxVis (s : State) (v : List TxEntry) : (s.setTxFifo v).el.rxVis = s.el.rxVis := rfl
@[simp] theorem State.setTxFifo_txVis (s : State) (v : List TxEntry) : (s.setTxFifo v).el.txVis = s.el.txVis := rfl
@[simp] theorem State.setTxFifo_cfg (s : State) (v : List TxEntry) : (s.setTxFifo v).cfg = s.cfg := rfl
@[simp] theorem State.setTxFifo_script (s : State) (v : List TxEntry) : (s.setTxFifo v).script = s.script := rfl
@[simp] theorem State.setTxFifo_inp (s : State) (v : List TxEntry) : (s.setTxFifo v).inp = s.inp := rfl
@[simp] theorem State.setTxFifo_out (s : State) (v : List TxEntry) : (s.setTxFifo v).out = s.out := rfl
@[simp] theorem State.setTxFifo_wires (s : State) (v : List TxEntry) : (s.setTxFifo v).wires = s.wires := rfl
@[simp] theorem State.setTxFifo_tick (s : State) (v : List TxEntry) : (s.setTxFifo v).tick = s.tick := rfl

theorem State.setRxVis_el (s : State) (v : Vis) : (s.setRxVis v).el = { s.el with rxVis := v } := rfl
@[simp] theorem State.setRxVis_grant (s : State) (v : Vis) : (s.setRxVis v).el.grant = s.el.grant := rfl
@[simp] theorem State.setRxVis_mcState (s : State) (v : Vis) : (s.setRxVis v).el.mcState = s.el.mcState := rfl
@[simp] theorem State.setRxVis_mcAdr (s : State) (v : Vis) : (s.setRxVis v).el.mcAdr = s.el.mcAdr := rfl
@[simp] theorem State.setRxVis_mem (s : State) (v : Vis) : (s.setRxVis v).el.mem = s.el.mem := rfl
@[simp] theorem State.setRxVis_brDat (s : State) (v : Vis) : (s.setRxVis v).el.brDat = s.el.brDat := rfl
@[simp] theorem State.setRxVis_brAck (s : State) (v : Vis) : (s.setRxVis v).el.brAck = s.el.brAck := rfl
@[simp] theorem State.setRxVis_brCnt (s : State) (v : Vis) : (s.setRxVis v).el.brCnt = s.el.brCnt := rfl
@[simp] theorem State.setRxVis_csrRdata (s : State) (v : Vis) : (s.setRxVis v).el.csrRdata = s.el.csrRdata := rfl
@[simp] theorem State.setRxVis_divisor (s : State) (v : Vis) : (s.setRxVis v).el.divisor = s.el.divisor := rfl
@[simp] theorem State.setRxVis_rxFifo (s : State) (v : Vis) : (s.setRxVis v).el.rxFifo = s.el.rxFifo := rfl
@[simp] theorem State.setRxVis_txFifo (s : State) (v : Vis) : (s.setRxVis v).el.txFifo = s.el.txFifo := rfl
@[simp] theorem State.setRxVis_rxVis (s : State) (v : Vis) : (s.setRxVis v).el.rxVis = v := rfl
@[simp] theorem State.setRxVis_txVis (s : State) (v : Vis) : (s.setRxVis v).el.txVis = s.el.txVis := rfl
@[simp] theorem State.setRxVis_cfg (s : State) (v : Vis) : (s.setRxVis v).cfg = s.cfg := rfl
@[simp] theorem State.setRxVis_script (s : State) (v : Vis) : (s.setRxVis v).script = s.script := rfl
@[simp] theorem State.setRxVis_inp (s : State) (v : Vis) : (s.setRxVis v).inp = s.inp := rfl
@[simp] theorem State.setRxVis_out (s : State) (v : Vis) : (s.setRxVis v).out = s.out := rfl
@[simp] theorem State.setRxVis_wires (s : State) (v : Vis) : (s.setRxVis v).wires = s.wires := rfl
@[simp] theorem State.setRxVis_tick (s : State) (v : Vis) : (s.setRxVis v).tick = s.tick := rfl

theorem State.setTxVis_el (s : State) (v : Vis) : (s.setTxVis v).el = { s.el with txVis := v } := rfl
@[simp] theorem State.setTxVis_grant (s : State) (v : Vis) : (s.setTxVis v).el.grant = s.el.grant := rfl
@[simp] theorem State.setTxVis_mcState (s : State) (v : Vis) : (s.setTxVis v).el.mcState = s.el.mcState := rfl
@[simp] theorem State.setTxVis_mcAdr (s : State) (v : Vis) : (s.setTxVis v).el.mcAdr = s.el.mcAdr := rfl
@[simp] theorem State.setTxVis_mem (s : State) (v : Vis) : (s.setTxVis v).el.mem = s.el.mem := rfl
@[simp] theorem State.setTxVis_brDat (s : State) (v : Vis) : (s.setTxVis v).el.brDat = s.el.brDat := rfl
@[simp] theorem State.setTxVis_brAck (s : State) (v : Vis) : (s.setTxVis v).el.brAck = s.el.brAck := rfl
@[simp] theorem State.setTxVis_brCnt (s : State) (v : Vis) : (s.setTxVis v).el.brCnt = s.el.brCnt := rfl
@[simp] theorem State.setTxVis_csrRdata (s : State) (v : Vis) : (s.setTxVis v).el.csrRdata = s.el.csrRdata := rfl
@[simp] theorem State.setTxVis_divisor (s : State) (v : Vis) : (s.setTxVis v).el.divisor = s.el.divisor := rfl
@[simp] theorem State.setTxVis_rxFifo (s : State) (v : Vis) : (s.setTxVis v).el.rxFifo = s.el.rxFifo := rfl
@[simp] theorem State.setTxVis_txFifo (s : State) (v : Vis) : (s.setTxVis v).el.txFifo = s.el.txFifo := rfl
@[simp] theorem State.setTxVis_rxVis (s : State) (v : Vis) : (s.setTxVis v).el.rxVis = s.el.rxVis := rfl
@[simp] theorem State.setTxVis_txVis (s : State) (v : Vis) : (s.setTxVis v).el.txVis = v := rfl
@[simp] theorem State.setTxVis_cfg (s : State) (v : Vis) : (s.setTxVis v).cfg = s.cfg := rfl
@[simp] theorem State.setTxVis_script (s : State) (v : Vis) : (s.setTxVis v).script = s.script := rfl
@[simp] theorem State.setTxVis_inp (s : State) (v : Vis) : (s.setTxVis v).inp = s.inp := rfl
@[simp] theorem State.setTxVis_out (s : State) (v : Vis) : (s.setTxVis v).out = s.out := rfl
@[simp] theorem State.setTxVis_wires (s : State) (v : Vis) : (s.setTxVis v).wires = s.wires := rfl
@[simp] theorem State.setTxVis_tick (s : State) (v : Vis) : (s.setTxVis v).tick = s.tick := rfl

@[simp] theorem State.driveD_d (s : State) (v : Response) : (s.driveD v).wires.d = v := rfl
@[simp] theorem State.driveD_p (s : State) (v : Response) : (s.driveD v).wires.p = s.wires.p := rfl
@[simp] theorem State.driveD_q (s : State) (v : Response) : (s.driveD v).wires.q = s.wires.q := rfl
@[simp] theorem State.driveD_narrow (s : State) (v : Response) : (s.driveD v).wires.narrow = s.wires.narrow := rfl
@[simp] theorem State.driveD_regV (s : State) (v : Response) : (s.driveD v).wires.regV = s.wires.regV := rfl
@[simp] theorem State.driveD_rxRData (s : State) (v : Response) : (s.driveD v).wires.rxRData = s.wires.rxRData := rfl
@[simp] theorem State.driveD_txRData (s : State) (v : Response) : (s.driveD v).wires.txRData = s.wires.txRData := rfl
@[simp] theorem State.driveD_cfg_field (s : State) (v : Response) : (s.driveD v).cfg = s.cfg := rfl
@[simp] theorem State.driveD_el_field (s : State) (v : Response) : (s.driveD v).el = s.el := rfl
@[simp] theorem State.driveD_script_field (s : State) (v : Response) : (s.driveD v).script = s.script := rfl
@[simp] theorem State.driveD_inp_field (s : State) (v : Response) : (s.driveD v).inp = s.inp := rfl
@[simp] theorem State.driveD_out_field (s : State) (v : Response) : (s.driveD v).out = s.out := rfl
@[simp] theorem State.driveD_tick_field (s : State) (v : Response) : (s.driveD v).tick = s.tick := rfl

@[simp] theorem State.driveP_d (s : State) (v : SlavePort) : (s.driveP v).wires.d = s.wires.d := rfl
@[simp] theorem State.driveP_p (s : State) (v : SlavePort) : (s.driveP v).wires.p = v := rfl
@[simp] theorem State.driveP_q (s : State) (v : SlavePort) : (s.driveP v).wires.q = s.wires.q := rfl
@[simp] theorem State.driveP_narrow (s : State) (v : SlavePort) : (s.driveP v).wires.narrow = s.wires.narrow := rfl
@[simp] theorem State.driveP_regV (s : State) (v : SlavePort) : (s.driveP v).wires.regV = s.wires.regV := rfl
@[simp] theorem State.driveP_rxRData (s : State) (v : SlavePort) : (s.driveP v).wires.rxRData = s.wires.rxRData := rfl
@[simp] theorem State.driveP_txRData (s : State) (v : SlavePort) : (s.driveP v).wires.txRData = s.wires.txRData := rfl
@[simp] theorem State.driveP_cfg_field (s : State) (v : SlavePort) : (s.driveP v).cfg = s.cfg := rfl
@[simp] theorem State.driveP_el_field (s : State) (v : SlavePort) : (s.driveP v).el = s.el := rfl
@[simp] theorem State.driveP_script_field (s : State) (v : SlavePort) : (s.driveP v).script = s.script := rfl
@[simp] theorem State.driveP_inp_field (s : State) (v : SlavePort) : (s.driveP v).inp = s.inp := rfl
@[simp] theorem State.driveP_out_field (s : State) (v : SlavePort) : (s.driveP v).out = s.out := rfl
@[simp] theorem State.driveP_tick_field (s : State) (v : SlavePort) : (s.driveP v).tick = s.tick := rfl

@[simp] theorem State.driveQ_d (s : State) (v : SlavePort) : (s.driveQ v).wires.d = s.wires.d := rfl
@[simp] theorem State.driveQ_p (s : State) (v : SlavePort) : (s.driveQ v).wires.p = s.wires.p := rfl
@[simp] theorem State.driveQ_q (s : State) (v : SlavePort) : (s.driveQ v).wires.q = v := rfl
@[simp] theorem State.driveQ_narrow (s : State) (v : SlavePort) : (s.driveQ v).wires.narrow = s.wires.narrow := rfl
@[simp] theorem State.driveQ_regV (s : State) (v : SlavePort) : (s.driveQ v).wires.regV = s.wires.regV := rfl
@[simp] theorem State.driveQ_rxRData (s : State) (v : SlavePort) : (s.driveQ v).wires.rxRData = s.wires.rxRData := rfl
@[simp] theorem State.driveQ_txRData (s : State) (v : SlavePort) : (s.driveQ v).wires.txRData = s.wires.txRData := rfl
@[simp] theorem State.driveQ_cfg_field (s : State) (v : SlavePort) : (s.driveQ v).cfg = s.cfg := rfl
@[simp] theorem State.driveQ_el_field (s : State) (v : SlavePort) : (s.driveQ v).el = s.el := rfl
@[simp] theorem State.driveQ_script_field (s : State) (v : SlavePort) : (s.driveQ v).script = s.script := rfl
@[simp] theorem State.driveQ_inp_field (s : State) (v : SlavePort) : (s.driveQ v).inp = s.inp := rfl
@[simp] theorem State.driveQ_out_field (s : State) (v : SlavePort) : (s.driveQ v).out = s.out := rfl
@[simp] theorem State.driveQ_tick_field (s : State) (v : SlavePort) : (s.driveQ v).tick = s.tick := rfl

@[simp] theorem State.driveNarrow_d (s : State) (v : NarrowBus) : (s.driveNarrow v).wires.d = s.wires.d := rfl
@[simp] theorem State.driveNarrow_p (s : State) (v : NarrowBus) : (s.driveNarrow v).wires.p = s.wires.p := rfl
@[simp] theorem State.driveNarrow_q (s : State) (v : NarrowBus) : (s.driveNarrow v).wires.q = s.wires.q := rfl
@[simp] theorem State.driveNarrow_narrow (s : State) (v : NarrowBus) : (s.driveNarrow v).wires.narrow = v := rfl
@[simp] theorem State.driveNarrow_regV (s : State) (v : NarrowBus) : (s.driveNarrow v).wires.regV = s.wires.regV := rfl
@[simp] theorem State.driveNarrow_rxRData (s : State) (v : NarrowBus) : (s.driveNarrow v).wires.rxRData = s.wires.rxRData := rfl
@[simp] theorem State.driveNarrow_txRData (s : State) (v : NarrowBus) : (s.driveNarrow v).wires.txRData = s.wires.txRData := rfl
@[simp] theorem State.driveNarrow_cfg_field (s : State) (v : NarrowBus) : (s.driveNarrow v).cfg = s.cfg := rfl
@[simp] theorem State.driveNarrow_el_field (s : State) (v : NarrowBus) : (s.driveNarrow v).el = s.el := rfl
@[simp] theorem State.driveNarrow_script_field (s : State) (v : NarrowBus) : (s.driveNarrow v).script = s.script := rfl
@[simp] theorem State.driveNarrow_inp_field (s : State) (v : NarrowBus) : (s.driveNarrow v).inp = s.inp := rfl
@[simp] theorem State.driveNarrow_out_field (s : State) (v : NarrowBus) : (s.driveNarrow v).out = s.out := rfl
@[simp] theorem State.driveNarrow_tick_field (s : State) (v : NarrowBus) : (s.driveNarrow v).tick = s.tick := rfl

@[simp] theorem State.driveRegV_d (s : State) (v : Byte) : (s.driveRegV v).wires.d = s.wires.d := rfl
@[simp] theorem State.driveRegV_p (s : State) (v : Byte) : (s.driveRegV v).wires.p = s.wires.p := rfl
@[simp] theorem State.driveRegV_q (s : State) (v : Byte) : (s.driveRegV v).wires.q = s.wires.q := rfl
@[simp] theorem State.driveRegV_narrow (s : State) (v : Byte) : (s.driveRegV v).wires.narrow = s.wires.narrow := rfl
@[simp] theorem State.driveRegV_regV (s : State) (v : Byte) : (s.driveRegV v).wires.regV = v := rfl
@[simp] theorem State.driveRegV_rxRData (s : State) (v : Byte) : (s.driveRegV v).wires.rxRData = s.wires.rxRData := rfl
@[simp] theorem State.driveRegV_txRData (s : State) (v : Byte) : (s.driveRegV v).wires.txRData = s.wires.txRData := rfl
@[simp] theorem State.driveRegV_cfg_field (s : State) (v : Byte) : (s.driveRegV v).cfg = s.cfg := rfl
@[simp] theorem State.driveRegV_el_field (s : State) (v : Byte) : (s.driveRegV v).el = s.el := rfl
@[simp] theorem State.driveRegV_script_field (s : State) (v : Byte) : (s.driveRegV v).script = s.script := rfl
@[simp] theorem State.driveRegV_inp_field (s : State) (v : Byte) : (s.driveRegV v).inp = s.inp := rfl
@[simp] theorem State.driveRegV_out_field (s : State) (v : Byte) : (s.driveRegV v).out = s.out := rfl
@[simp] theorem State.driveRegV_tick_field (s : State) (v : Byte) : (s.driveRegV v).tick = s.tick := rfl

@[simp] theorem State.driveRxRData_d (s : State) (v : RxEntry) : (s.driveRxRData v).wires.d = s.wires.d := rfl
@[simp] theorem State.driveRxRData_p (s : State) (v : RxEntry) : (s.driveRxRData v).wires.p = s.wires.p := rfl
@[simp] theorem State.driveRxRData_q (s : State) (v : RxEntry) : (s.driveRxRData v).wires.q = s.wires.q := rfl
@[simp] theorem State.driveRxRData_narrow (s : State) (v : RxEntry) : (s.driveRxRData v).wires.narrow = s.wires.narrow := rfl
@[simp] theorem State.driveRxRData_regV (s : State) (v : RxEntry) : (s.driveRxRData v).wires.regV = s.wires.regV := rfl
@[simp] theorem State.driveRxRData_rxRData (s : State) (v : RxEntry) : (s.driveRxRData v).wires.rxRData = v := rfl
@[simp] theorem State.driveRxRData_txRData (s : State) (v : RxEntry) : (s.driveRxRData v).wires.txRData = s.wires.txRData := rfl
@[simp] theorem State.driveRxRData_cfg_field (s : State) (v : RxEntry) : (s.driveRxRData v).cfg = s.cfg := rfl
@[simp] theorem State.driveRxRData_el_field (s : State) (v : RxEntry) : (s.driveRxRData v).el = s.el := rfl
@[simp] theorem State.driveRxRData_script_field (s : State) (v : RxEntry) : (s.driveRxRData v).script = s.script := rfl
@[simp] theorem State.driveRxRData_inp_field (s : State) (v : RxEntry) : (s.driveRxRData v).inp = s.inp := rfl
@[simp] theorem State.driveRxRData_out_field (s : State) (v : RxEntry) : (s.driveRxRData v).out = s.out := rfl
@[simp] theorem State.driveRxRData_tick_field (s : State) (v : RxEntry) : (s.driveRxRData v).tick = s.tick := rfl

@[simp] theorem State.driveTxRData_d (s : State) (v : TxEntry) : (s.driveTxRData v).wires.d = s.wires.d := rfl
@[simp] theorem State.driveTxRData_p (s : State) (v : TxEntry) : (s.driveTxRData v).wires.p = s.wires.p := rfl
@[simp] theorem State.driveTxRData_q (s : State) (v : TxEntry) : (s.driveTxRData v).wires.q = s.wires.q := rfl
@[simp] theorem State.driveTxRData_narrow (s : State) (v : TxEntry) : (s.driveTxRData v).wires.narrow = s.wires.narrow := rfl
@[simp] theorem State.driveTxRData_regV (s : State) (v : TxEntry) : (s.driveTxRData v).wires.regV = s.wires.regV := rfl
@[simp] theorem State.driveTxRData_rxRData (s : State) (v : TxEntry) : (s.driveTxRData v).wires.rxRData = s.wires.rxRData := rfl
@[simp] theorem State.driveTxRData_txRData (s : State) (v : TxEntry) : (s.driveTxRData v).wires.txRData = v := rfl
@[simp] theorem State.driveTxRData_cfg_field (s : State) (v : TxEntry) : (s.driveTxRData v).cfg = s.cfg := rfl
@[simp] theorem State.driveTxRData_el_field (s : State) (v : TxEntry) : (s.driveTxRData v).el = s.el := rfl
@[simp] theorem State.driveTxRData_script_field (s : State) (v : TxEntry) : (s.driveTxRData v).script = s.script := rfl
@[simp] theorem State.driveTxRData_inp_field (s : State) (v : TxEntry) : (s.driveTxRData v).inp = s.inp := rfl
@[simp] theorem State.driveTxRData_out_field (s : State) (v : TxEntry) : (s.driveTxRData v).out = s.out := rfl
@[simp] theorem State.driveTxRData_tick_field (s : State) (v : TxEntry) : (s.driveTxRData v).tick = s.tick := rfl

@[simp] theorem State.driveRxAck_m0 (s : State) (v : Bool) : (s.driveRxAck v).out.m0 = s.out.m0 := rfl
@[simp] theorem State.driveTx_m0 (s : State) (a : Bool) (d : Byte) : (s.driveTx a d).out.m0 = s.out.m0 := rfl
@[simp] theorem State.driveRxAck_m1 (s : State) (v : Bool) : (s.driveRxAck v).out.m1 = s.out.m1 := rfl
@[simp] theorem State.driveTx_m1 (s : State) (a : Bool) (d : Byte) : (s.driveTx a d).out.m1 = s.out.m1 := rfl
@[simp] theorem State.driveRxAck_rxAck (s : State) (v : Bool) : (s.driveRxAck v).out.rxAck = v := rfl
@[simp] theorem State.driveTx_rxAck (s : State) (a : Bool) (d : Byte) : (s.driveTx a d).out.rxAck = s.out.rxAck := rfl
@[simp] theorem State.driveRxAck_txData (s : State) (v : Bool) : (s.driveRxAck v).out.txData = s.out.txData := rfl
@[simp] theorem State.driveTx_txData (s : State) (a : Bool) (d : Byte) : (s.driveTx a d).out.txData = d := rfl
@[simp] theorem State.driveRxAck_txAck (s : State) (v : Bool) : (s.driveRxAck v).out.txAck = s.out.txAck := rfl
@[simp] theorem State.driveTx_txAck (s : State) (a : Bool) (d : Byte) : (s.driveTx a d).out.txAck = a := rfl
@[simp] theorem State.driveRxAck_divisor (s : State) (v : Bool) : (s.driveRxAck v).out.divisor = s.out.divisor := rfl
@[simp] theorem State.driveTx_divisor (s : State) (a : Bool) (d : Byte) : (s.driveTx a d).out.divisor = s.out.divisor := rfl
@[simp] theorem State.driveRxAck_cfg_field (s : State) (v : Bool) : (s.driveRxAck v).cfg = s.cfg := rfl
@[simp] theorem State.driveTx_cfg_field (s : State) (a : Bool) (d : Byte) : (s.driveTx a d).cfg = s.cfg := rfl
@[simp] theorem State.driveMaster_cfg_field (s : State) (m : Master) (v : Response) : (s.driveMaster m v).cfg = s.cfg := by
  cases m <;> rfl
@[simp] theorem State.driveRxAck_el_field (s : State) (v : Bool) : (s.driveRxAck v).el = s.el := rfl
@[simp] theorem State.driveTx_el_field (s : State) (a : Bool) (d : Byte) : (s.driveTx a d).el = s.el := rfl
@[simp] theorem State.driveMaster_el_field (s : State) (m : Master) (v : Response) : (s.driveMaster m v).el = s.el := by
  cases m <;> rfl
@[simp] theorem State.driveRxAck_script_field (s : State) (v : Bool) : (s.driveRxAck v).script = s.script := rfl
@[simp] theorem State.driveTx_script_field (s : State) (a : Bool) (d : Byte) : (s.driveTx a d).script = s.script := rfl
@[simp] theorem State.driveMaster_script_field (s : State) (m : Master) (v : Response) : (s.driveMaster m v).script = s.script := by
  cases m <;> rfl
@[simp] theorem State.driveRxAck_inp_field (s : State) (v : Bool) : (s.driveRxAck v).inp = s.inp := rfl
@[simp] theorem State.driveTx_inp_field (s : State) (a : Bool) (d : Byte) : (s.driveTx a d).inp = s.inp := rfl
@[simp] theorem State.driveMaster_inp_field (s : State) (m : Master) (v : Response) : (s.driveMaster m v).inp = s.inp := by
  cases m <;> rfl
@[simp] theorem State.driveRxAck_wires_field (s : State) (v : Bool) : (s.driveRxAck v).wires = s.wires := rfl
@[simp] theorem State.driveTx_wires_field (s : State) (a : Bool) (d : Byte) : (s.driveTx a d).wires = s.wires := rfl
@[simp] theorem State.driveMaster_wires_field (s : State) (m : Master) (v : Response) : (s.driveMaster m v).wires = s.wires := by
  cases m <;> rfl
@[simp] theorem State.driveRxAck_tick_field (s : State) (v : Bool) : (s.driveRxAck v).tick = s.tick := rfl
@[simp] theorem State.driveTx_tick_field (s : State) (a : Bool) (d : Byte) : (s.driveTx a d).tick = s.tick := rfl
@[simp] theorem State.driveMaster_tick_field (s : State) (m : Master) (v : Response) : (s.driveMaster m v).tick = s.tick := by
  cases m <;> rfl
@[simp] theorem State.driveMaster_rxAck (s : State) (m : Master) (v : Response) : (s.driveMaster m v).out.rxAck = s.out.rxAck := by
  cases m <;> rfl
@[simp] theorem State.driveMaster_txData (s : State) (m : Master) (v : Response) : (s.driveMaster m v).out.txData = s.out.txData := by
  cases m <;> rfl
@[simp] theorem State.driveMaster_txAck (s : State) (m : Master) (v : Response) : (s.driveMaster m v).out.txAck = s.out.txAck := by
  cases m <;> rfl
@[simp] theorem State.driveMaster_divisor (s : State) (m : Master) (v : Response) : (s.driveMaster m v).out.divisor = s.out.divisor := by
  cases m <;> rfl
@[simp] theorem State.driveMaster_self (s : State) (m : Master) (v : Response) : (s.driveMaster m v).out.master m = v := by
  cases m <;> rfl
@[simp] theorem State.driveMaster_other (s : State) (m : Master) (v : Response) :
    (s.driveMaster m.other v).out.master m = s.out.master m := by
  cases m <;> rfl
@[simp] theorem State.driveMaster_of_other (s : State) (m : Master) (v : Response) :
    (s.driveMaster m v).out.master m.other = s.out.master m.other := by
  cases m <;> rfl

@[simp] theorem Master.other_other (m : Master) : m.other.other = m := by cases m <;> rfl

end Sys2Proof.Machine
end

