-- ==== Sys2Proof/Laws/Ops.lean ====
section
/-! SUPPORT. One lemma for each shared operation that says what it writes of the record S (10_state.md R20, R84: each element
has one owner), and one that it leaves the context alone. No later proof unfolds the operation. -/

namespace Sys2Proof.Machine

theorem sameContext_refl (s : State) : sameContext s s := ⟨rfl, rfl, rfl, rfl⟩

theorem sameContext_trans {s t u : State} (h : sameContext s t) (k : sameContext t u) : sameContext s u :=
  ⟨k.1.trans h.1, k.2.1.trans h.2.1, k.2.2.1.trans h.2.2.1, k.2.2.2.trans h.2.2.2⟩

/-! The FIFO halves. -/

/-- The push half writes rxFifo and rxVis only (R224, R226). -/
theorem State.rxPush_el (s : State) (e : RxEntry) : (s.rxPush e).el =
    { s.el with rxFifo := s.el.rxFifo ++ [e], rxVis := s.el.rxVis.bump s.cfg.fifoMode true false } := rfl
theorem State.rxPush_context (s : State) (e : RxEntry) : sameContext s (s.rxPush e) := ⟨rfl, rfl, rfl, rfl⟩
@[simp] theorem State.rxPush_cfg (s : State) (e : RxEntry) : (s.rxPush e).cfg = s.cfg := (s.rxPush_context e).1
/-- The pop half writes rxFifo and rxVis only. -/
theorem State.rxPop_el (s : State) : (s.rxPop).el =
    { s.el with rxFifo := s.el.rxFifo.tail, rxVis := s.el.rxVis.bump s.cfg.fifoMode false true } := rfl
theorem State.rxPop_context (s : State) : sameContext s (s.rxPop) := ⟨rfl, rfl, rfl, rfl⟩
@[simp] theorem State.rxPop_cfg (s : State) : (s.rxPop).cfg = s.cfg := (s.rxPop_context).1
/-- The reveal writes rxVis only (R226). -/
theorem State.rxReveal_el (s : State) (old : Vis) : (s.rxReveal old).el =
    { s.el with rxVis := s.el.rxVis.reveal s.cfg.fifoMode (4 * s.tick) (4 * s.tick + 1) old } := rfl
theorem State.rxReveal_context (s : State) (old : Vis) : sameContext s (s.rxReveal old) := ⟨rfl, rfl, rfl, rfl⟩
@[simp] theorem State.rxReveal_cfg (s : State) (old : Vis) : (s.rxReveal old).cfg = s.cfg :=
  (s.rxReveal_context old).1

/-- The push half writes txFifo and txVis only (R224, R226). -/
theorem State.txPush_el (s : State) (e : TxEntry) : (s.txPush e).el =
    { s.el with txFifo := s.el.txFifo ++ [e], txVis := s.el.txVis.bump s.cfg.fifoMode true false } := rfl
theorem State.txPush_context (s : State) (e : TxEntry) : sameContext s (s.txPush e) := ⟨rfl, rfl, rfl, rfl⟩
@[simp] theorem State.txPush_cfg (s : State) (e : TxEntry) : (s.txPush e).cfg = s.cfg := (s.txPush_context e).1
/-- The pop half writes txFifo and txVis only. -/
theorem State.txPop_el (s : State) : (s.txPop).el =
    { s.el with txFifo := s.el.txFifo.tail, txVis := s.el.txVis.bump s.cfg.fifoMode false true } := rfl
theorem State.txPop_context (s : State) : sameContext s (s.txPop) := ⟨rfl, rfl, rfl, rfl⟩
@[simp] theorem State.txPop_cfg (s : State) : (s.txPop).cfg = s.cfg := (s.txPop_context).1
/-- The reveal writes txVis only (R226). -/
theorem State.txReveal_el (s : State) (old : Vis) : (s.txReveal old).el =
    { s.el with txVis := s.el.txVis.reveal s.cfg.fifoMode (4 * s.tick + 2) (4 * s.tick + 3) old } := rfl
theorem State.txReveal_context (s : State) (old : Vis) : sameContext s (s.txReveal old) := ⟨rfl, rfl, rfl, rfl⟩
@[simp] theorem State.txReveal_cfg (s : State) (old : Vis) : (s.txReveal old).cfg = s.cfg :=
  (s.txReveal_context old).1

/-- `choose(0 .. n)` is a number from 0 to `n` (R226). -/
theorem choose_le (seed due n : Nat) : choose seed due n ≤ n := by
  have h : Free.choice seed % (n + 1) < n + 1 := Nat.mod_lt _ (Nat.succ_pos n)
  unfold choose
  split <;> omega

/-- Where something is hidden and its time is up, something is revealed (the fairness of R226). -/
theorem choose_pos (seed n : Nat) (h : 0 < n) : 0 < choose seed 0 n := by
  unfold choose
  rw [if_pos rfl]
  omega

/-- While something is hidden and nothing is revealed, the time left goes down (the fairness of R226). -/
theorem nextDue_lt (seed due n : Nat) (h : 0 < n) (hc : choose seed due n = 0) : nextDue seed due n + 1 = due := by
  have hd : due ≠ 0 := by
    rintro rfl
    exact absurd (choose_pos seed n h) (by omega)
  unfold nextDue
  rw [if_neg (by omega)]
  omega

/-- One clock cycle of a FIFO's counters: the halves' counts and then the reveal of what was hidden at its start (R226). -/
theorem Vis.reveal_bump (v : Vis) (mode : FifoMode) (doWrite doRead : Bool) (seedW seedR : Nat) :
    v.after mode doWrite doRead ((v.bump mode doWrite doRead).reveal mode seedW seedR v) := by
  cases mode with
  | exactFlags => rfl
  | laggingFlags =>
    have hW := choose_le seedW v.dueW v.hidW
    have hR := choose_le seedR v.dueR v.hidR
    refine ⟨choose seedW v.dueW v.hidW, choose seedR v.dueR v.hidR, hW, hR, ?_, ?_, ?_, ?_, ?_, ?_⟩
    · intro hd hn
      rw [hd]
      exact choose_pos seedW _ hn
    · intro hd hn
      rw [hd]
      exact choose_pos seedR _ hn
    · show v.hidW + doWrite.toNat - choose seedW v.dueW v.hidW = v.hidW - choose seedW v.dueW v.hidW + doWrite.toNat
      omega
    · show v.hidR + doRead.toNat - choose seedR v.dueR v.hidR = v.hidR - choose seedR v.dueR v.hidR + doRead.toNat
      omega
    · exact fun hn hc => nextDue_lt seedW v.dueW v.hidW hn hc
    · exact fun hn hc => nextDue_lt seedR v.dueR v.hidR hn hc

/-! BusError. -/

/-- BusError changes no element of S (R321). -/
theorem State.raiseBusError_el (s : State) : s.raiseBusError.el = s.el := rfl

theorem State.raiseBusError_context (s : State) : sameContext s (s.raiseBusError) := ⟨rfl, rfl, rfl, rfl⟩
@[simp] theorem State.raiseBusError_cfg (s : State) : (s.raiseBusError).cfg = s.cfg := (s.raiseBusError_context).1

/-! The burst address generator. -/

theorem State.advanceLinear_context (s : State) : sameContext s (s.advanceLinear) := ⟨rfl, rfl, rfl, rfl⟩
@[simp] theorem State.advanceLinear_cfg (s : State) : (s.advanceLinear).cfg = s.cfg := (s.advanceLinear_context).1
theorem State.advanceWrap_context (s : State) (w : Nat) : sameContext s (s.advanceWrap w) := ⟨rfl, rfl, rfl, rfl⟩
@[simp] theorem State.advanceWrap_cfg (s : State) (w : Nat) : (s.advanceWrap w).cfg = s.cfg :=
  (s.advanceWrap_context w).1

/-- The window of the burst address generator, W of R165, by VK. -/
theorem State.advance_cases (s : State) (cti : BitVec 3) (bte : BitVec 2) :
    (advKey cti bte = 0b00#2 ∧ s.advance cti bte = s.advanceLinear) ∨
    (advKey cti bte = 0b01#2 ∧ s.advance cti bte = s.advanceWrap 2) ∨
    (advKey cti bte = 0b10#2 ∧ s.advance cti bte = s.advanceWrap 3) ∨
    (advKey cti bte = 0b11#2 ∧ s.advance cti bte = s.advanceWrap 4) := by
  unfold State.advance
  generalize advKey cti bte = vk
  have h : vk = 0#2 ∨ vk = 1#2 ∨ vk = 2#2 ∨ vk = 3#2 := by revert vk; decide
  rcases h with rfl | rfl | rfl | rfl <;> simp

/-- Advance writes the latched address only (R165). -/
theorem State.advance_el (s : State) (cti : BitVec 3) (bte : BitVec 2) :
    (s.advance cti bte).el = { s.el with mcAdr := (s.advance cti bte).el.mcAdr } := by
  rcases s.advance_cases cti bte with ⟨_, h⟩ | ⟨_, h⟩ | ⟨_, h⟩ | ⟨_, h⟩ <;> rw [h] <;> rfl

theorem State.advance_context (s : State) (cti : BitVec 3) (bte : BitVec 2) : sameContext s (s.advance cti bte) := by
  rcases s.advance_cases cti bte with ⟨_, h⟩ | ⟨_, h⟩ | ⟨_, h⟩ | ⟨_, h⟩ <;> rw [h] <;> exact ⟨rfl, rfl, rfl, rfl⟩
@[simp] theorem State.advance_cfg (s : State) (cti : BitVec 3) (bte : BitVec 2) : (s.advance cti bte).cfg = s.cfg :=
  (s.advance_context cti bte).1

/-- Advance depends on the latched address and the configuration only. -/
theorem State.advance_mcAdr_congr (s t : State) (cti : BitVec 3) (bte : BitVec 2) (ha : t.el.mcAdr = s.el.mcAdr)
    (hc : t.cfg = s.cfg) : (t.advance cti bte).el.mcAdr = (s.advance cti bte).el.mcAdr := by
  unfold State.advance
  split
  · simp [State.advanceLinear, ha, hc]
  · split
    · simp [State.advanceWrap, ha, hc]
    · split <;> simp [State.advanceWrap, ha, hc]

/-! The Memory Controller: it writes mcState, mcAdr and mem only. -/

theorem State.driveMemoryPort_context (s : State) (ack : Bool) :
    sameContext s (s.driveMemoryPort ack) := ⟨rfl, rfl, rfl, rfl⟩
@[simp] theorem State.driveMemoryPort_cfg (s : State) (ack : Bool) : (s.driveMemoryPort ack).cfg = s.cfg :=
  (s.driveMemoryPort_context ack).1
@[simp] theorem State.driveMemoryPort_el (s : State) (ack : Bool) : (s.driveMemoryPort ack).el = s.el := rfl

/-- The write commit writes `mem` only, and only where MEM_WRITABLE (R166). -/
theorem State.commitWrite_el (s : State) (we : Bool) (sel : BitVec 4) (datW : Word) :
    (s.commitWrite we sel datW).el =
      { s.el with
        mem := if we && s.cfg.memWritable then s.el.mem.writeWord s.el.mcAdr.toNat sel datW else s.el.mem } := by
  unfold State.commitWrite
  split <;> rfl

theorem State.commitWrite_context (s : State) (we : Bool) (sel : BitVec 4) (datW : Word) :
    sameContext s (s.commitWrite we sel datW) := by
  unfold State.commitWrite
  split <;> exact ⟨rfl, rfl, rfl, rfl⟩
@[simp] theorem State.commitWrite_cfg (s : State) (we : Bool) (sel : BitVec 4) (datW : Word) : (s.commitWrite we sel datW).cfg = s.cfg :=
  (s.commitWrite_context we sel datW).1

/-- The write commit keeps the memory's canonical form. -/
theorem State.commitWrite_wf (s : State) (we : Bool) (sel : BitVec 4) (datW : Word) (h : s.el.mem.wf = true) :
    (s.commitWrite we sel datW).el.mem.wf = true := by
  rw [State.commitWrite_el]
  show (if we && s.cfg.memWritable then s.el.mem.writeWord s.el.mcAdr.toNat sel datW else s.el.mem).wf = true
  split
  · exact Memory.writeWord_wf _ _ _ _ h
  · exact h

/-- The write commit leaves the internal signals alone. -/
theorem State.commitWrite_wires (s : State) (we : Bool) (sel : BitVec 4) (datW : Word) :
    (s.commitWrite we sel datW).wires = s.wires := by
  unfold State.commitWrite
  split <;> rfl

/-- MC.IDLE (R164). -/
theorem State.mcIdle_el (s : State) : s.mcIdle.el = s.el := rfl

/-- MC.LATCH (R161). -/
theorem State.mcLatch_el (s : State) (adr : Adr) :
    (s.mcLatch adr).el = { s.el with mcAdr := memIndex s.cfg adr, mcState := .cycle } := rfl

/-- MC.RELEASE (R163). -/
theorem State.mcRelease_el (s : State) : s.mcRelease.el = { s.el with mcState := .idle } := rfl

/-- MC.BEAT (R162). -/
theorem State.mcBeat_el (s : State) (we : Bool) (sel : BitVec 4) (datW : Word) (cti : BitVec 3) (bte : BitVec 2) :
    (s.mcBeat we sel datW cti bte).el =
      { s.el with
        mcState := .cycle
        mcAdr := (s.advance cti bte).el.mcAdr
        mem := if we && s.cfg.memWritable then s.el.mem.writeWord s.el.mcAdr.toNat sel datW else s.el.mem } := by
  unfold State.mcBeat
  rw [State.setMcState_el, State.advance_el, State.commitWrite_el]
  simp only [State.driveMemoryPort_el, State.driveMemoryPort_cfg]
  congr 1
  exact State.advance_mcAdr_congr _ _ _ _ (by rw [State.commitWrite_el]; rfl) (by simp)

theorem State.mcIdle_context (s : State) : sameContext s (s.mcIdle) := ⟨rfl, rfl, rfl, rfl⟩
@[simp] theorem State.mcIdle_cfg (s : State) : (s.mcIdle).cfg = s.cfg := (s.mcIdle_context).1
theorem State.mcLatch_context (s : State) (adr : Adr) : sameContext s (s.mcLatch adr) := ⟨rfl, rfl, rfl, rfl⟩
@[simp] theorem State.mcLatch_cfg (s : State) (adr : Adr) : (s.mcLatch adr).cfg = s.cfg := (s.mcLatch_context adr).1
theorem State.mcRelease_context (s : State) : sameContext s (s.mcRelease) := ⟨rfl, rfl, rfl, rfl⟩
@[simp] theorem State.mcRelease_cfg (s : State) : (s.mcRelease).cfg = s.cfg := (s.mcRelease_context).1
theorem State.mcBeat_context (s : State) (we : Bool) (sel : BitVec 4) (datW : Word) (cti : BitVec 3) (bte : BitVec 2) :
    sameContext s (s.mcBeat we sel datW cti bte) := by
  unfold State.mcBeat
  exact sameContext_trans (sameContext_trans (sameContext_trans (State.driveMemoryPort_context _ _) (State.commitWrite_context _ _ _ _)) (State.advance_context _ _ _)) ⟨rfl, rfl, rfl, rfl⟩
@[simp] theorem State.mcBeat_cfg (s : State) (we : Bool) (sel : BitVec 4) (datW : Word) (cti : BitVec 3) (bte : BitVec 2) : (s.mcBeat we sel datW cti bte).cfg = s.cfg :=
  (s.mcBeat_context we sel datW cti bte).1

/-- The controller's operation of a clock cycle is the one its key selects (R160). -/
theorem State.mcPerform_cases (s : State) (beat : Bool) (b : Request) :
    (s.el.mcState = .idle ∧ beat = false ∧ s.mcPerform beat b = s.mcIdle) ∨
    (s.el.mcState = .idle ∧ beat = true ∧ s.mcPerform beat b = s.mcLatch b.adr) ∨
    (s.el.mcState = .cycle ∧ beat = false ∧ s.mcPerform beat b = s.mcRelease) ∨
    (s.el.mcState = .cycle ∧ beat = true ∧ s.mcPerform beat b = s.mcBeat b.we b.sel b.datW b.cti b.bte) := by
  unfold State.mcPerform
  cases hs : s.el.mcState <;> cases beat <;> simp

/-- The controller writes its own three elements only (R84). -/
theorem State.mcPerform_el (s : State) (beat : Bool) (b : Request) :
    (s.mcPerform beat b).el =
      { s.el with
        mcState := (s.mcPerform beat b).el.mcState
        mcAdr := (s.mcPerform beat b).el.mcAdr
        mem := (s.mcPerform beat b).el.mem } := by
  rcases s.mcPerform_cases beat b with ⟨_, _, h⟩ | ⟨_, _, h⟩ | ⟨_, _, h⟩ | ⟨_, _, h⟩ <;> rw [h]
  · rfl
  · rfl
  · rfl
  · rw [State.mcBeat_el]

theorem State.mcPerform_context (s : State) (beat : Bool) (b : Request) : sameContext s (s.mcPerform beat b) := by
  rcases s.mcPerform_cases beat b with ⟨_, _, h⟩ | ⟨_, _, h⟩ | ⟨_, _, h⟩ | ⟨_, _, h⟩ <;> rw [h]
  · exact State.mcIdle_context _
  · exact State.mcLatch_context _ _
  · exact State.mcRelease_context _
  · exact State.mcBeat_context _ _ _ _ _ _
@[simp] theorem State.mcPerform_cfg (s : State) (beat : Bool) (b : Request) : (s.mcPerform beat b).cfg = s.cfg :=
  (s.mcPerform_context beat b).1

/-! The Register File. -/

/-- CTRL.WR writes `divisor` only (R208). -/
theorem State.writeCtrl_el (s : State) (j : BitVec 2) (data : Byte) :
    (s.writeCtrl j data).el =
      { s.el with divisor := BitVec.ofNat 32 ((setLane s.el.divisor j.toNat data).toNat % 2 ^ s.cfg.divisorWidth) } := rfl

/-- RX_DATA.RD writes the receive FIFO only, and only while it is ready to read (R232). -/
theorem State.readRxData_el (s : State) :
    s.readRxData.el =
      if s.rxReadReady then
        { s.el with rxFifo := s.el.rxFifo.tail, rxVis := s.el.rxVis.bump s.cfg.fifoMode false true }
      else s.el := by
  unfold State.readRxData
  split <;> rfl

/-- RX_DATA.RD yields the byte that the FIFO shows (R232). -/
theorem State.readRxData_regV (s : State) : s.readRxData.wires.regV = rxEntryData s.rxRData := by
  unfold State.readRxData
  split <;> rfl

/-- TX_DATA.WR writes the transmit FIFO only, and only while it is ready to write (R233). -/
theorem State.writeTxData_el (s : State) (data : Byte) :
    (s.writeTxData data).el =
      if s.txWriteReady then
        { s.el with txFifo := s.el.txFifo ++ [data], txVis := s.el.txVis.bump s.cfg.fifoMode true false }
      else s.el := by
  unfold State.writeTxData
  split <;> rfl

theorem State.readCtrl_context (s : State) (j : BitVec 2) : sameContext s (s.readCtrl j) := ⟨rfl, rfl, rfl, rfl⟩
@[simp] theorem State.readCtrl_cfg (s : State) (j : BitVec 2) : (s.readCtrl j).cfg = s.cfg := (s.readCtrl_context j).1
theorem State.writeCtrl_context (s : State) (j : BitVec 2) (data : Byte) :
    sameContext s (s.writeCtrl j data) := ⟨rfl, rfl, rfl, rfl⟩
@[simp] theorem State.writeCtrl_cfg (s : State) (j : BitVec 2) (data : Byte) : (s.writeCtrl j data).cfg = s.cfg :=
  (s.writeCtrl_context j data).1
theorem State.readRxInfo_context (s : State) : sameContext s (s.readRxInfo) := ⟨rfl, rfl, rfl, rfl⟩
@[simp] theorem State.readRxInfo_cfg (s : State) : (s.readRxInfo).cfg = s.cfg := (s.readRxInfo_context).1
theorem State.readRxData_context (s : State) : sameContext s (s.readRxData) := by
  unfold State.readRxData
  split <;> exact ⟨rfl, rfl, rfl, rfl⟩
@[simp] theorem State.readRxData_cfg (s : State) : (s.readRxData).cfg = s.cfg := (s.readRxData_context).1
theorem State.readTxInfo_context (s : State) : sameContext s (s.readTxInfo) := ⟨rfl, rfl, rfl, rfl⟩
@[simp] theorem State.readTxInfo_cfg (s : State) : (s.readTxInfo).cfg = s.cfg := (s.readTxInfo_context).1
theorem State.writeTxData_context (s : State) (data : Byte) : sameContext s (s.writeTxData data) := by
  unfold State.writeTxData
  split <;> exact ⟨rfl, rfl, rfl, rfl⟩
@[simp] theorem State.writeTxData_cfg (s : State) (data : Byte) : (s.writeTxData data).cfg = s.cfg :=
  (s.writeTxData_context data).1
theorem State.readNone_context (s : State) : sameContext s (s.readNone) := ⟨rfl, rfl, rfl, rfl⟩
@[simp] theorem State.readNone_cfg (s : State) : (s.readNone).cfg = s.cfg := (s.readNone_context).1
theorem State.regRead_context (s : State) (addr : NarrowAdr) : sameContext s (s.regRead addr) := by
  unfold State.regRead
  split
  · exact State.readCtrl_context _ _
  · split
    · exact State.readRxInfo_context _
    · split
      · exact State.readRxData_context _
      · split
        · exact State.readTxInfo_context _
        · exact State.readNone_context _
@[simp] theorem State.regRead_cfg (s : State) (addr : NarrowAdr) : (s.regRead addr).cfg = s.cfg :=
  (s.regRead_context addr).1
theorem State.regWrite_context (s : State) (addr : NarrowAdr) (data : Byte) :
    sameContext s (s.regWrite addr data) := by
  unfold State.regWrite
  split
  · exact State.writeCtrl_context _ _ _
  · split
    · exact State.writeTxData_context _ _
    · exact sameContext_refl _
@[simp] theorem State.regWrite_cfg (s : State) (addr : NarrowAdr) (data : Byte) : (s.regWrite addr data).cfg = s.cfg :=
  (s.regWrite_context addr data).1

/-- A register read writes the receive FIFO only (R67). -/
theorem State.regRead_el (s : State) (addr : NarrowAdr) :
    (s.regRead addr).el =
      { s.el with rxFifo := (s.regRead addr).el.rxFifo, rxVis := (s.regRead addr).el.rxVis } := by
  unfold State.regRead
  split
  · rfl
  · split
    · rfl
    · split
      · rw [State.readRxData_el]
        split <;> rfl
      · split <;> rfl

/-- A register read of another address than OFF_RX_DATA, or while the FIFO is not ready, changes nothing (R67). -/
theorem State.regRead_pure (s : State) (addr : NarrowAdr) (h : addr.toNat ≠ s.cfg.offRxData ∨ s.rxReadReady = false) :
    (s.regRead addr).el = s.el := by
  unfold State.regRead
  split
  · rfl
  · split
    · rfl
    · split
      · rename_i h2
        rcases h with h | h
        · exact absurd h2 h
        · rw [State.readRxData_el, h]
          rfl
      · split <;> rfl

/-- A register write writes the divisor and the transmit FIFO only. -/
theorem State.regWrite_el (s : State) (addr : NarrowAdr) (data : Byte) :
    (s.regWrite addr data).el =
      { s.el with
        divisor := (s.regWrite addr data).el.divisor
        txFifo := (s.regWrite addr data).el.txFifo
        txVis := (s.regWrite addr data).el.txVis } := by
  unfold State.regWrite
  split
  · rfl
  · split
    · rw [State.writeTxData_el]
      split <;> rfl
    · rfl

theorem State.readRxData_driveNarrow (s : State) (n : NarrowBus) :
    (s.driveNarrow n).readRxData = s.readRxData.driveNarrow n := by
  unfold State.readRxData
  have h : (s.driveNarrow n).rxReadReady = s.rxReadReady := rfl
  rw [h]
  cases s.rxReadReady <;> rfl

theorem State.writeTxData_driveNarrow (s : State) (n : NarrowBus) (data : Byte) :
    (s.driveNarrow n).writeTxData data = (s.writeTxData data).driveNarrow n := by
  unfold State.writeTxData
  have h : (s.driveNarrow n).txWriteReady = s.txWriteReady := rfl
  rw [h]
  cases s.txWriteReady <;> rfl

/-- A register read neither reads nor drives the narrow bus's lines. -/
theorem State.regRead_driveNarrow (s : State) (n : NarrowBus) (addr : NarrowAdr) :
    (s.driveNarrow n).regRead addr = (s.regRead addr).driveNarrow n := by
  cases hj : ctrlByteAt s.cfg addr with
  | some j =>
    simp only [State.regRead, State.driveNarrow_cfg_field, hj]
    rfl
  | none =>
    have e (u : State) (hu : u.cfg = s.cfg) : u.regRead addr =
        if addr.toNat = s.cfg.offRxInfo then u.readRxInfo
        else if addr.toNat = s.cfg.offRxData then u.readRxData
        else if addr.toNat = s.cfg.offTxInfo then u.readTxInfo
        else u.readNone := by
      unfold State.regRead
      rw [hu, hj]
    rw [e (s.driveNarrow n) rfl, e s rfl]
    split
    · rfl
    · split
      · exact s.readRxData_driveNarrow n
      · split <;> rfl

/-- A register write neither reads nor drives the narrow bus's lines. -/
theorem State.regWrite_driveNarrow (s : State) (n : NarrowBus) (addr : NarrowAdr) (data : Byte) :
    (s.driveNarrow n).regWrite addr data = (s.regWrite addr data).driveNarrow n := by
  cases hj : ctrlByteAt s.cfg addr with
  | some j =>
    simp only [State.regWrite, State.driveNarrow_cfg_field, hj]
    rfl
  | none =>
    have e (u : State) (hu : u.cfg = s.cfg) : u.regWrite addr data =
        if addr.toNat = s.cfg.offTxData then u.writeTxData data else u := by
      unfold State.regWrite
      rw [hu, hj]
    rw [e (s.driveNarrow n) rfl, e s rfl]
    split
    · exact s.writeTxData_driveNarrow n data
    · rfl

/-- CSR.RD: the byte read goes to `csr_rdata`; of the rest it writes the receive FIFO only (R201). -/
theorem State.csrRead_el (s : State) (addr : NarrowAdr) :
    (s.csrRead addr).el =
      { s.el with
        csrRdata := (s.regRead addr).wires.regV
        rxFifo := (s.regRead addr).el.rxFifo
        rxVis := (s.regRead addr).el.rxVis } := by
  unfold State.csrRead
  simp only [State.setCsrRdata_el, State.regRead_driveNarrow, State.driveNarrow_el_field]
  rw [State.regRead_el]
  rfl

/-- CSR.WR: `csr_rdata` is cleared; of the rest it writes the divisor and the transmit FIFO only (R202). -/
theorem State.csrWrite_el (s : State) (addr : NarrowAdr) (data : Byte) :
    (s.csrWrite addr data).el =
      { s.el with
        csrRdata := 0
        divisor := (s.regWrite addr data).el.divisor
        txFifo := (s.regWrite addr data).el.txFifo
        txVis := (s.regWrite addr data).el.txVis } := by
  unfold State.csrWrite
  simp only [State.setCsrRdata_el, State.regWrite_driveNarrow, State.driveNarrow_el_field]
  rw [State.regWrite_el]

/-- CSR.RD raises the read strobe at its address; `csr_w_data` stays as the Bridge drives it (R192). -/
theorem State.csrRead_narrow (s : State) (addr : NarrowAdr) :
    (s.csrRead addr).wires.narrow = { s.wires.narrow with addr := addr, rStb := true, wStb := false } := by
  unfold State.csrRead
  simp only [State.regRead_driveNarrow]
  rfl

/-- CSR.WR raises the write strobe at its address with its data (R192). -/
theorem State.csrWrite_narrow (s : State) (addr : NarrowAdr) (data : Byte) :
    (s.csrWrite addr data).wires.narrow = { addr := addr, rStb := false, wStb := true, wData := data } := by
  unfold State.csrWrite
  simp only [State.regWrite_driveNarrow]
  rfl

/-- CSR.NOP clears `csr_rdata` and writes nothing else (R203). -/
theorem State.csrNop_el (s : State) : s.csrNop.el = { s.el with csrRdata := 0 } := rfl

/-- CSR.NOP raises no strobe (R203). -/
theorem State.csrNop_narrow (s : State) :
    s.csrNop.wires.narrow = { s.wires.narrow with rStb := false, wStb := false } := rfl

theorem State.csrRead_context (s : State) (addr : NarrowAdr) : sameContext s (s.csrRead addr) := by
  have h := State.regRead_context (s.driveNarrow { s.wires.narrow with addr := addr, rStb := true, wStb := false }) addr
  exact ⟨h.1, h.2.1, h.2.2.1, h.2.2.2⟩
@[simp] theorem State.csrRead_cfg (s : State) (addr : NarrowAdr) : (s.csrRead addr).cfg = s.cfg :=
  (s.csrRead_context addr).1
theorem State.csrWrite_context (s : State) (addr : NarrowAdr) (data : Byte) :
    sameContext s (s.csrWrite addr data) := by
  have h := State.regWrite_context (s.driveNarrow { addr := addr, wStb := true, wData := data }) addr data
  exact ⟨h.1, h.2.1, h.2.2.1, h.2.2.2⟩
@[simp] theorem State.csrWrite_cfg (s : State) (addr : NarrowAdr) (data : Byte) : (s.csrWrite addr data).cfg = s.cfg :=
  (s.csrWrite_context addr data).1
theorem State.csrNop_context (s : State) : sameContext s (s.csrNop) := ⟨rfl, rfl, rfl, rfl⟩
@[simp] theorem State.csrNop_cfg (s : State) : (s.csrNop).cfg = s.cfg := (s.csrNop_context).1

/-! The Bridge: it writes its own three elements, and the Register File and FIFO elements through the narrow bus; never an
element of the Memory Controller or of the Arbiter. -/

/-- The elements no Bridge operation writes. -/
def outsideBridge (e f : Elements) : Prop :=
  f.grant = e.grant ∧ f.mcState = e.mcState ∧ f.mcAdr = e.mcAdr ∧ f.mem = e.mem

theorem outsideBridge_refl (e : Elements) : outsideBridge e e := ⟨rfl, rfl, rfl, rfl⟩

theorem outsideBridge_trans {e f g : Elements} (h : outsideBridge e f) (k : outsideBridge f g) : outsideBridge e g :=
  ⟨k.1.trans h.1, k.2.1.trans h.2.1, k.2.2.1.trans h.2.2.1, k.2.2.2.trans h.2.2.2⟩

theorem State.csrRead_outside (s : State) (addr : NarrowAdr) : outsideBridge s.el (s.csrRead addr).el := by
  rw [State.csrRead_el]
  exact ⟨rfl, rfl, rfl, rfl⟩

theorem State.csrWrite_outside (s : State) (addr : NarrowAdr) (data : Byte) :
    outsideBridge s.el (s.csrWrite addr data).el := by
  rw [State.csrWrite_el]
  exact ⟨rfl, rfl, rfl, rfl⟩

/-- A lane's narrow beat is a read, a write or none, by `sel` and `we` (R192, R204). -/
theorem State.issueLane_cases (s : State) (k : Nat) (adr : Adr) (sel : BitVec 4) (we : Bool) (datW : Word) :
    (sel.getLsbD k = true ∧ we = true ∧
      s.issueLane k adr sel we datW = (s.driveLane k adr datW).csrWrite (narrowAddr s.cfg adr k) (lane datW k)) ∨
    (sel.getLsbD k = true ∧ we = false ∧
      s.issueLane k adr sel we datW = (s.driveLane k adr datW).csrRead (narrowAddr s.cfg adr k)) ∨
    (sel.getLsbD k = false ∧ s.issueLane k adr sel we datW = (s.driveLane k adr datW).csrNop) := by
  unfold State.issueLane
  cases hs : sel.getLsbD k <;> cases we <;> simp

theorem State.issueLane_outside (s : State) (k : Nat) (adr : Adr) (sel : BitVec 4) (we : Bool) (datW : Word) :
    outsideBridge s.el (s.issueLane k adr sel we datW).el := by
  rcases s.issueLane_cases k adr sel we datW with ⟨_, _, h⟩ | ⟨_, _, h⟩ | ⟨_, h⟩ <;> rw [h]
  · exact State.csrWrite_outside _ _ _
  · exact State.csrRead_outside _ _
  · exact ⟨rfl, rfl, rfl, rfl⟩

/-- A lane's clock cycle shows the lane's address and byte, and the strobe that `sel` and `we` select (R101, R102, R192). -/
theorem State.issueLane_narrow (s : State) (k : Nat) (b : Request) :
    (s.issueLane k b.adr b.sel b.we b.datW).wires.narrow = narrowBeat s.cfg true k b := by
  rcases s.issueLane_cases k b.adr b.sel b.we b.datW with ⟨hs, hw, h⟩ | ⟨hs, hw, h⟩ | ⟨hs, h⟩ <;> rw [h]
  · rw [State.csrWrite_narrow]
    simp [narrowBeat, hs, hw]
  · rw [State.csrRead_narrow]
    simp [narrowBeat, State.driveLane, hs, hw]
  · rw [State.csrNop_narrow]
    simp [narrowBeat, State.driveLane, hs]

theorem State.driveLane_context (s : State) (k : Nat) (adr : Adr) (datW : Word) :
    sameContext s (s.driveLane k adr datW) := ⟨rfl, rfl, rfl, rfl⟩
@[simp] theorem State.driveLane_cfg (s : State) (k : Nat) (adr : Adr) (datW : Word) : (s.driveLane k adr datW).cfg = s.cfg :=
  (s.driveLane_context k adr datW).1
theorem State.issueLane_context (s : State) (k : Nat) (adr : Adr) (sel : BitVec 4) (we : Bool) (datW : Word) :
    sameContext s (s.issueLane k adr sel we datW) := by
  rcases s.issueLane_cases k adr sel we datW with ⟨_, _, h⟩ | ⟨_, _, h⟩ | ⟨_, h⟩ <;> rw [h]
  · exact sameContext_trans (State.driveLane_context _ _ _ _) (State.csrWrite_context _ _ _)
  · exact sameContext_trans (State.driveLane_context _ _ _ _) (State.csrRead_context _ _)
  · exact sameContext_trans (State.driveLane_context _ _ _ _) (State.csrNop_context _)
@[simp] theorem State.issueLane_cfg (s : State) (k : Nat) (adr : Adr) (sel : BitVec 4) (we : Bool) (datW : Word) : (s.issueLane k adr sel we datW).cfg = s.cfg :=
  (s.issueLane_context k adr sel we datW).1

/-- Collecting a lane writes the assembly register only (R195 to R198). -/
theorem State.collectLane_el (s : State) (k : Nat) :
    (s.collectLane k).el = { s.el with brDat := setLane s.el.brDat k s.el.csrRdata } := rfl

/-- BR.IDLE (R193). -/
theorem State.brIdle_el (s : State) (adr : Adr) (datW : Word) :
    (s.brIdle adr datW).el = { s.el with brCnt := 0, brAck := false, csrRdata := 0 } := rfl

/-- BR.COLLECT (R198). -/
theorem State.brCollect_el (s : State) (adr : Adr) (datW : Word) :
    (s.brCollect adr datW).el =
      { s.el with brDat := setLane s.el.brDat 3 s.el.csrRdata, brCnt := 0, brAck := true, csrRdata := 0 } := rfl

/-- BR.ACK (R199). -/
theorem State.brAckCycle_el (s : State) (adr : Adr) (datW : Word) :
    (s.brAckCycle adr datW).el = { s.el with brCnt := 0, brAck := false, csrRdata := 0 } := rfl

theorem State.driveBridgePort_context (s : State) (ack : Bool) :
    sameContext s (s.driveBridgePort ack) := ⟨rfl, rfl, rfl, rfl⟩
@[simp] theorem State.driveBridgePort_cfg (s : State) (ack : Bool) : (s.driveBridgePort ack).cfg = s.cfg :=
  (s.driveBridgePort_context ack).1
theorem State.collectLane_context (s : State) (k : Nat) : sameContext s (s.collectLane k) := ⟨rfl, rfl, rfl, rfl⟩
@[simp] theorem State.collectLane_cfg (s : State) (k : Nat) : (s.collectLane k).cfg = s.cfg :=
  (s.collectLane_context k).1
theorem State.brIdle_context (s : State) (adr : Adr) (datW : Word) :
    sameContext s (s.brIdle adr datW) := ⟨rfl, rfl, rfl, rfl⟩
@[simp] theorem State.brIdle_cfg (s : State) (adr : Adr) (datW : Word) : (s.brIdle adr datW).cfg = s.cfg :=
  (s.brIdle_context adr datW).1
theorem State.brCollect_context (s : State) (adr : Adr) (datW : Word) :
    sameContext s (s.brCollect adr datW) := ⟨rfl, rfl, rfl, rfl⟩
@[simp] theorem State.brCollect_cfg (s : State) (adr : Adr) (datW : Word) : (s.brCollect adr datW).cfg = s.cfg :=
  (s.brCollect_context adr datW).1
theorem State.brAckCycle_context (s : State) (adr : Adr) (datW : Word) :
    sameContext s (s.brAckCycle adr datW) := ⟨rfl, rfl, rfl, rfl⟩
@[simp] theorem State.brAckCycle_cfg (s : State) (adr : Adr) (datW : Word) : (s.brAckCycle adr datW).cfg = s.cfg :=
  (s.brAckCycle_context adr datW).1
theorem State.brLane0_context (s : State) (adr : Adr) (sel : BitVec 4) (we : Bool) (datW : Word) :
    sameContext s (s.brLane0 adr sel we datW) := by
  have h := State.issueLane_context (s.driveBridgePort false) 0 adr sel we datW
  exact ⟨h.1, h.2.1, h.2.2.1, h.2.2.2⟩
@[simp] theorem State.brLane0_cfg (s : State) (adr : Adr) (sel : BitVec 4) (we : Bool) (datW : Word) : (s.brLane0 adr sel we datW).cfg = s.cfg :=
  (s.brLane0_context adr sel we datW).1
theorem State.brLane0_outside (s : State) (adr : Adr) (sel : BitVec 4) (we : Bool) (datW : Word) :
    outsideBridge s.el (s.brLane0 adr sel we datW).el := by
  have h := State.issueLane_outside (s.driveBridgePort false) 0 adr sel we datW
  exact ⟨h.1, h.2.1, h.2.2.1, h.2.2.2⟩
theorem State.brLane1_context (s : State) (adr : Adr) (sel : BitVec 4) (we : Bool) (datW : Word) :
    sameContext s (s.brLane1 adr sel we datW) := by
  have h := State.issueLane_context ((s.driveBridgePort false).collectLane 0) 1 adr sel we datW
  exact ⟨h.1, h.2.1, h.2.2.1, h.2.2.2⟩
@[simp] theorem State.brLane1_cfg (s : State) (adr : Adr) (sel : BitVec 4) (we : Bool) (datW : Word) : (s.brLane1 adr sel we datW).cfg = s.cfg :=
  (s.brLane1_context adr sel we datW).1
theorem State.brLane1_outside (s : State) (adr : Adr) (sel : BitVec 4) (we : Bool) (datW : Word) :
    outsideBridge s.el (s.brLane1 adr sel we datW).el := by
  have h := State.issueLane_outside ((s.driveBridgePort false).collectLane 0) 1 adr sel we datW
  exact ⟨h.1, h.2.1, h.2.2.1, h.2.2.2⟩
theorem State.brLane2_context (s : State) (adr : Adr) (sel : BitVec 4) (we : Bool) (datW : Word) :
    sameContext s (s.brLane2 adr sel we datW) := by
  have h := State.issueLane_context ((s.driveBridgePort false).collectLane 1) 2 adr sel we datW
  exact ⟨h.1, h.2.1, h.2.2.1, h.2.2.2⟩
@[simp] theorem State.brLane2_cfg (s : State) (adr : Adr) (sel : BitVec 4) (we : Bool) (datW : Word) : (s.brLane2 adr sel we datW).cfg = s.cfg :=
  (s.brLane2_context adr sel we datW).1
theorem State.brLane2_outside (s : State) (adr : Adr) (sel : BitVec 4) (we : Bool) (datW : Word) :
    outsideBridge s.el (s.brLane2 adr sel we datW).el := by
  have h := State.issueLane_outside ((s.driveBridgePort false).collectLane 1) 2 adr sel we datW
  exact ⟨h.1, h.2.1, h.2.2.1, h.2.2.2⟩
theorem State.brLane3_context (s : State) (adr : Adr) (sel : BitVec 4) (we : Bool) (datW : Word) :
    sameContext s (s.brLane3 adr sel we datW) := by
  have h := State.issueLane_context ((s.driveBridgePort false).collectLane 2) 3 adr sel we datW
  exact ⟨h.1, h.2.1, h.2.2.1, h.2.2.2⟩
@[simp] theorem State.brLane3_cfg (s : State) (adr : Adr) (sel : BitVec 4) (we : Bool) (datW : Word) : (s.brLane3 adr sel we datW).cfg = s.cfg :=
  (s.brLane3_context adr sel we datW).1
theorem State.brLane3_outside (s : State) (adr : Adr) (sel : BitVec 4) (we : Bool) (datW : Word) :
    outsideBridge s.el (s.brLane3 adr sel we datW).el := by
  have h := State.issueLane_outside ((s.driveBridgePort false).collectLane 2) 3 adr sel we datW
  exact ⟨h.1, h.2.1, h.2.2.1, h.2.2.2⟩

/-- The Bridge's operation of a clock cycle is the one its key selects (R192, R198). -/
theorem State.brPerform_cases (s : State) (beat : Bool) (b : Request) :
    (beat = false ∧ s.brPerform beat b = s.brIdle b.adr b.datW) ∨
    (beat = true ∧ s.el.brAck = true ∧ s.brPerform beat b = s.brAckCycle b.adr b.datW) ∨
    (beat = true ∧ s.el.brAck = false ∧ s.el.brCnt = 0#3 ∧ s.brPerform beat b = s.brLane0 b.adr b.sel b.we b.datW) ∨
    (beat = true ∧ s.el.brAck = false ∧ s.el.brCnt = 1#3 ∧ s.brPerform beat b = s.brLane1 b.adr b.sel b.we b.datW) ∨
    (beat = true ∧ s.el.brAck = false ∧ s.el.brCnt = 2#3 ∧ s.brPerform beat b = s.brLane2 b.adr b.sel b.we b.datW) ∨
    (beat = true ∧ s.el.brAck = false ∧ s.el.brCnt = 3#3 ∧ s.brPerform beat b = s.brLane3 b.adr b.sel b.we b.datW) ∨
    (beat = true ∧ s.el.brAck = false ∧ 4 ≤ s.el.brCnt.toNat ∧ s.brPerform beat b = s.brCollect b.adr b.datW) := by
  unfold State.brPerform
  cases beat
  · simp
  · cases ha : s.el.brAck
    · generalize s.el.brCnt = cnt
      have h : cnt = 0#3 ∨ cnt = 1#3 ∨ cnt = 2#3 ∨ cnt = 3#3 ∨
          (4 ≤ cnt.toNat ∧ cnt ≠ 0#3 ∧ cnt ≠ 1#3 ∧ cnt ≠ 2#3 ∧ cnt ≠ 3#3) := by revert cnt; decide
      rcases h with rfl | rfl | rfl | rfl | ⟨h, h0, h1, h2, h3⟩
      · simp
      · simp
      · simp
      · simp
      · simp [h, h0, h1, h2, h3]
    · simp

theorem State.brPerform_outside (s : State) (beat : Bool) (b : Request) :
    outsideBridge s.el (s.brPerform beat b).el := by
  rcases s.brPerform_cases beat b with ⟨_, h⟩ | ⟨_, _, h⟩ | ⟨_, _, _, h⟩ | ⟨_, _, _, h⟩ | ⟨_, _, _, h⟩ | ⟨_, _, _, h⟩ |
    ⟨_, _, _, h⟩ <;> rw [h]
  · exact ⟨rfl, rfl, rfl, rfl⟩
  · exact ⟨rfl, rfl, rfl, rfl⟩
  · exact State.brLane0_outside _ _ _ _ _
  · exact State.brLane1_outside _ _ _ _ _
  · exact State.brLane2_outside _ _ _ _ _
  · exact State.brLane3_outside _ _ _ _ _
  · exact ⟨rfl, rfl, rfl, rfl⟩

theorem State.brPerform_context (s : State) (beat : Bool) (b : Request) : sameContext s (s.brPerform beat b) := by
  rcases s.brPerform_cases beat b with ⟨_, h⟩ | ⟨_, _, h⟩ | ⟨_, _, _, h⟩ | ⟨_, _, _, h⟩ | ⟨_, _, _, h⟩ | ⟨_, _, _, h⟩ |
    ⟨_, _, _, h⟩ <;> rw [h]
  · exact State.brIdle_context _ _ _
  · exact State.brAckCycle_context _ _ _
  · exact State.brLane0_context _ _ _ _ _
  · exact State.brLane1_context _ _ _ _ _
  · exact State.brLane2_context _ _ _ _ _
  · exact State.brLane3_context _ _ _ _ _
  · exact State.brCollect_context _ _ _
@[simp] theorem State.brPerform_cfg (s : State) (beat : Bool) (b : Request) : (s.brPerform beat b).cfg = s.cfg :=
  (s.brPerform_context beat b).1

/-- The narrow bus's four signals in every clock cycle, whatever operation the Bridge performs (R192). -/
theorem State.brPerform_narrow (s : State) (beat : Bool) (b : Request) :
    (s.brPerform beat b).wires.narrow =
      narrowBeat s.cfg (beat && !s.el.brAck && decide (s.el.brCnt.toNat ≤ 3)) (s.el.brCnt.toNat % 4) b := by
  rcases s.brPerform_cases beat b with ⟨hb, h⟩ | ⟨hb, ha, h⟩ | ⟨hb, ha, hc, h⟩ | ⟨hb, ha, hc, h⟩ | ⟨hb, ha, hc, h⟩ |
    ⟨hb, ha, hc, h⟩ | ⟨hb, ha, hc, h⟩ <;> rw [h]
  · simp only [hb, Bool.false_and]
    rfl
  · simp only [ha, Bool.not_true, Bool.and_false, Bool.false_and]
    rfl
  · rw [hb, ha, hc]
    exact State.issueLane_narrow _ 0 b
  · rw [hb, ha, hc]
    exact State.issueLane_narrow _ 1 b
  · rw [hb, ha, hc]
    exact State.issueLane_narrow _ 2 b
  · rw [hb, ha, hc]
    exact State.issueLane_narrow _ 3 b
  · have h3 : ¬ s.el.brCnt.toNat ≤ 3 := by omega
    simp only [h3, decide_false, Bool.and_false]
    rfl

/-! The Decoder. -/

/-- What routeMem leaves of the record S is what the two slaves' operations leave. -/
theorem State.routeMem_el (s : State) (d : Request) :
    (s.routeMem d).el = ((s.mcPerform (strobed d) d).brPerform (false) d).el := rfl
theorem State.routeMem_context (s : State) (d : Request) :
    sameContext s (s.routeMem d) := sameContext_trans (sameContext_trans (State.mcPerform_context _ _ _) (State.brPerform_context _ _ _)) ⟨rfl, rfl, rfl, rfl⟩
@[simp] theorem State.routeMem_cfg (s : State) (d : Request) : (s.routeMem d).cfg = s.cfg := (s.routeMem_context d).1
/-- What routeCsr leaves of the record S is what the two slaves' operations leave. -/
theorem State.routeCsr_el (s : State) (d : Request) :
    (s.routeCsr d).el = ((s.mcPerform (false) d).brPerform (strobed d) d).el := rfl
theorem State.routeCsr_context (s : State) (d : Request) :
    sameContext s (s.routeCsr d) := sameContext_trans (sameContext_trans (State.mcPerform_context _ _ _) (State.brPerform_context _ _ _)) ⟨rfl, rfl, rfl, rfl⟩
@[simp] theorem State.routeCsr_cfg (s : State) (d : Request) : (s.routeCsr d).cfg = s.cfg := (s.routeCsr_context d).1
/-- What routeMiss leaves of the record S is what two idle slaves leave: BusError writes nothing (R265, R321). -/
theorem State.routeMiss_el (s : State) (d : Request) :
    (s.routeMiss d).el = ((s.mcPerform false d).brPerform false d).el := by
  unfold State.routeMiss
  dsimp only
  split <;> rfl
theorem State.routeMiss_context (s : State) (d : Request) : sameContext s (s.routeMiss d) := by
  unfold State.routeMiss
  dsimp only
  split
  · exact sameContext_trans (sameContext_trans (State.mcPerform_context _ _ _) (State.brPerform_context _ _ _)) ⟨rfl, rfl, rfl, rfl⟩
  · exact sameContext_trans (sameContext_trans (State.mcPerform_context _ _ _) (State.brPerform_context _ _ _)) ⟨rfl, rfl, rfl, rfl⟩
@[simp] theorem State.routeMiss_cfg (s : State) (d : Request) : (s.routeMiss d).cfg = s.cfg :=
  (s.routeMiss_context d).1

/-- The Decoder's operation of a clock cycle is the one the address selects (R262). -/
theorem State.decPerform_cases (s : State) (d : Request) :
    (selMem s.cfg d.adr = true ∧ s.decPerform d = s.routeMem d) ∨
    (selMem s.cfg d.adr = false ∧ selCsr s.cfg d.adr = true ∧ s.decPerform d = s.routeCsr d) ∨
    (selMem s.cfg d.adr = false ∧ selCsr s.cfg d.adr = false ∧ s.decPerform d = s.routeMiss d) := by
  unfold State.decPerform
  cases hm : selMem s.cfg d.adr <;> cases hc : selCsr s.cfg d.adr <;> simp

theorem State.decPerform_context (s : State) (d : Request) : sameContext s (s.decPerform d) := by
  rcases s.decPerform_cases d with ⟨_, h⟩ | ⟨_, _, h⟩ | ⟨_, _, h⟩ <;> rw [h]
  · exact State.routeMem_context _ _
  · exact State.routeCsr_context _ _
  · exact State.routeMiss_context _ _
@[simp] theorem State.decPerform_cfg (s : State) (d : Request) : (s.decPerform d).cfg = s.cfg :=
  (s.decPerform_context d).1

/-! The Arbiter and the port. -/

/-- The Arbiter writes the grant only (R283). -/
theorem State.arbPerform_el (s : State) (cyc1 cyc0 : Bool) :
    (s.arbPerform cyc1 cyc0).el = { s.el with grant := (s.arbPerform cyc1 cyc0).el.grant } := by
  unfold State.arbPerform
  cases hg : s.el.grant <;> cases cyc1 <;> cases cyc0 <;> rfl

theorem State.arbPerform_context (s : State) (cyc1 cyc0 : Bool) : sameContext s (s.arbPerform cyc1 cyc0) := by
  unfold State.arbPerform
  cases s.el.grant <;> cases cyc1 <;> cases cyc0 <;> exact ⟨rfl, rfl, rfl, rfl⟩
@[simp] theorem State.arbPerform_cfg (s : State) (cyc1 cyc0 : Bool) : (s.arbPerform cyc1 cyc0).cfg = s.cfg :=
  (s.arbPerform_context cyc1 cyc0).1

/-- The Arbiter leaves outputs and internal signals alone. -/
theorem State.arbPerform_signals (s : State) (cyc1 cyc0 : Bool) :
    (s.arbPerform cyc1 cyc0).out = s.out ∧ (s.arbPerform cyc1 cyc0).wires = s.wires := by
  unfold State.arbPerform
  cases s.el.grant <;> cases cyc1 <;> cases cyc0 <;> exact ⟨rfl, rfl⟩

@[simp] theorem State.driveMaster_el (s : State) (m : Master) (v : Response) : (s.driveMaster m v).el = s.el := by
  cases m <;> rfl

theorem State.driveMaster_context (s : State) (m : Master) (v : Response) : sameContext s (s.driveMaster m v) := by
  cases m <;> exact ⟨rfl, rfl, rfl, rfl⟩

/-- The response fan-out writes no element of S (R282). -/
theorem State.respond_el (s : State) (m : Master) : (s.respond m).el = s.el := by
  simp [State.respond]

theorem State.respond_context (s : State) (m : Master) :
    sameContext s (s.respond m) := sameContext_trans (State.driveMaster_context _ _ _) (State.driveMaster_context _ _ _)
@[simp] theorem State.respond_cfg (s : State) (m : Master) : (s.respond m).cfg = s.cfg := (s.respond_context m).1

/-- A port that is not granted changes no element of S (R124, R291). -/
theorem State.wait_el (s : State) (m : Master) : (s.wait m).el = s.el := by
  simp [State.wait]

theorem State.wait_context (s : State) (m : Master) : sameContext s (s.wait m) := State.driveMaster_context _ _ _
@[simp] theorem State.wait_cfg (s : State) (m : Master) : (s.wait m).cfg = s.cfg := (s.wait_context m).1
theorem State.arbitrate_context (s : State) (m : Master) (cyc : Bool) : sameContext s (s.arbitrate m cyc) := by
  cases m <;> exact State.arbPerform_context _ _ _
@[simp] theorem State.arbitrate_cfg (s : State) (m : Master) (cyc : Bool) : (s.arbitrate m cyc).cfg = s.cfg :=
  (s.arbitrate_context m cyc).1

/-- A port's clock cycle, granted or not (R123, R124). -/
theorem State.portCycle_cases (s : State) (m : Master) (b : Request) :
    (s.el.grant = m ∧ s.portCycle m b = ((s.decPerform b).respond m).arbitrate m b.cyc) ∨
    (s.el.grant ≠ m ∧ s.portCycle m b = s.wait m) := by
  unfold State.portCycle
  by_cases h : s.el.grant = m <;> simp [h]

theorem State.portCycle_context (s : State) (m : Master) (b : Request) : sameContext s (s.portCycle m b) := by
  rcases s.portCycle_cases m b with ⟨_, h⟩ | ⟨_, h⟩ <;> rw [h]
  · exact sameContext_trans (sameContext_trans (State.decPerform_context _ _) (State.respond_context _ _)) (State.arbitrate_context _ _ _)
  · exact State.wait_context _ _
@[simp] theorem State.portCycle_cfg (s : State) (m : Master) (b : Request) : (s.portCycle m b).cfg = s.cfg :=
  (s.portCycle_context m b).1

/-! Reset. -/

/-- The memory of the reset state is in canonical form, whatever MEM_INIT (R43). -/
theorem State.resetOf_memory_wf (c : Config) : (State.resetOf c).el.mem.wf = true :=
  Memory.writeImage_wf _ _ _ rfl

/-- So is that of the reference fabric. -/
theorem State.reset_memory_wf : State.reset.el.mem.wf = true := State.resetOf_memory_wf _

end Sys2Proof.Machine
end

