-- ==== Sys2Proof/Tests/Slice0.lean ====
section
/-! SUPPORT. The model's own tests: the well-formedness checks, one word written out for every constructor, one-step checks of
the spec's worked examples (the rule of the example is named), and for each obligation with hypotheses a concrete instance
that meets them (witness_…). -/

namespace Sys2Proof.Tests

open Sys2Proof Sys2Proof.Machine

/-! Helpers. -/

/-- A check of the next state; false of a stop. -/
def onNext (o : Host.Outcome State Fault Refusal) (p : State → Bool) : Bool :=
  match o with
  | .next t => p t
  | .fault _ => false
  | .refused _ => false

theorem next_of_onNext {o : Host.Outcome State Fault Refusal} (h : onNext o (fun _ => true) = true) : ∃ t, o = .next t := by
  cases o with
  | next t => exact ⟨t, rfl⟩
  | fault r => cases r
  | refused r => cases h

/-- The array of R120: mem[4..7] = 0x44, 0x55, 0x66, 0x77. -/
def mem120 : Memory := [(16, 0x44), (20, 0x55), (24, 0x66), (28, 0x77)]

/-- A fabric under REF with some elements and rows of inputs. -/
def fabric (el : Elements) (script : List Row := []) : State := { State.reset with el := el, script := script }

/-- A fabric with another configuration. -/
def fabricOf (c : Config) (el : Elements) (script : List Row := []) : State := { State.resetOf c with el := el, script := script }

/-- A row in which m0 alone presents something. -/
def row0 (cw : BitVec 8) (adr : Adr) (sel : BitVec 4) (datW : Word) : Row := { m0 := ⟨cw, adr, sel, datW⟩ }

/-! The configuration and the well-formedness checks. -/

theorem test_ref_legal : Config.ref.legal = true := by decide
theorem test_illegal_data_width : ({ Config.ref with dataWidth := 16 } : Config).legal = false := by decide
theorem test_illegal_size : ({ Config.ref with memSize := 0x1800 } : Config).legal = false := by decide
theorem test_illegal_base : ({ Config.ref with memBase := 0x800 } : Config).legal = false := by decide
theorem test_illegal_overlap : ({ Config.ref with csrBase := 0x20 } : Config).legal = false := by decide
theorem test_illegal_register_overlap : ({ Config.ref with offRxInfo := 1 } : Config).legal = false := by decide
theorem test_illegal_register_outside : ({ Config.ref with offTxData := 0x20 } : Config).legal = false := by decide
theorem test_illegal_depth : ({ Config.ref with txDepth := 0 } : Config).legal = false := by decide

theorem test_wf_refuses :
    (Instr.ctrlRd 2).wf Config.ref = false ∧ (Instr.ctrlWr 3 0).wf Config.ref = false ∧
    (Instr.csrRd 0x20).wf Config.ref = false ∧ (Instr.csrWr 0x40 1).wf Config.ref = false ∧
    (Instr.regRdNone 0x0C).wf Config.ref = false ∧ (Instr.regRdNone 0x20).wf Config.ref = false ∧
    (Instr.regWrNone 0x10 5).wf Config.ref = false ∧ (Instr.regWrNone 0x01 5).wf Config.ref = false ∧
    (Instr.fifoPush .tx 256).wf Config.ref = false ∧ (Instr.fifoPushPop .tx 2047).wf Config.ref = false ∧
    (Instr.decMem { adr := 0x400 }).wf Config.ref = false ∧ (Instr.decCsr { adr := 0x20000008 }).wf Config.ref = false ∧
    (Instr.decMiss { adr := 0x3FF }).wf Config.ref = false := by decide

theorem test_wf_accepts_boundaries :
    (Instr.ctrlRd 1).wf Config.ref = true ∧ (Instr.csrRd 0x1F).wf Config.ref = true ∧
    (Instr.regRdNone 0x10).wf Config.ref = true ∧ (Instr.regWrNone 0x08 5).wf Config.ref = true ∧
    (Instr.fifoPush .tx 255).wf Config.ref = true ∧ (Instr.fifoPush .rx 2047).wf Config.ref = true ∧
    (Instr.decMem { adr := 0x3FF }).wf Config.ref = true ∧ (Instr.decCsr { adr := 0x20000007 }).wf Config.ref = true ∧
    (Instr.decMiss { adr := 0x20000008 }).wf Config.ref = true := by decide

/-! Decoding: the words of R93, R97, R103, bit by bit, for every constructor. -/

/-- A word of port m1 with address 0x123, all lanes, data 0xABCD. -/
def wbWord (cw : Nat) : OpWord := ⟨.wb, cw, { port := .m1, adr := 0x123, sel := 0xF, datW := 0xABCD }⟩

-- cyc stb we cti[2:0] bte[1:0]
theorem test_decode_wb_no_beat :
    decode Config.ref (wbWord 0b01111111) = .ok (.wbIdle .m1 0x123) ∧
    decode Config.ref (wbWord 0b10101010) = .ok (.wbWait .m1 0x123) := by decide

theorem test_decode_wb_reads :
    decode Config.ref (wbWord 0b11000011) = .ok (.wbRdClassic .m1 0x123 0xF) ∧
    decode Config.ref (wbWord 0b11000101) = .ok (.wbRdConst .m1 0x123 0xF) ∧
    decode Config.ref (wbWord 0b11001000) = .ok (.wbRdIncrLinear .m1 0x123 0xF) ∧
    decode Config.ref (wbWord 0b11001001) = .ok (.wbRdIncrWrap4 .m1 0x123 0xF) ∧
    decode Config.ref (wbWord 0b11001010) = .ok (.wbRdIncrWrap8 .m1 0x123 0xF) ∧
    decode Config.ref (wbWord 0b11001011) = .ok (.wbRdIncrWrap16 .m1 0x123 0xF) ∧
    decode Config.ref (wbWord 0b11001110) = .ok (.wbRdRsvd3 .m1 0x123 0xF) ∧
    decode Config.ref (wbWord 0b11010000) = .ok (.wbRdRsvd45 .m1 0x123 0xF) ∧
    decode Config.ref (wbWord 0b11010111) = .ok (.wbRdRsvd45 .m1 0x123 0xF) ∧
    decode Config.ref (wbWord 0b11011001) = .ok (.wbRdRsvd6 .m1 0x123 0xF) ∧
    decode Config.ref (wbWord 0b11011101) = .ok (.wbRdEob .m1 0x123 0xF) := by decide

theorem test_decode_wb_writes :
    decode Config.ref (wbWord 0b11100011) = .ok (.wbWrClassic .m1 0x123 0xF 0xABCD) ∧
    decode Config.ref (wbWord 0b11100101) = .ok (.wbWrConst .m1 0x123 0xF 0xABCD) ∧
    decode Config.ref (wbWord 0b11101000) = .ok (.wbWrIncrLinear .m1 0x123 0xF 0xABCD) ∧
    decode Config.ref (wbWord 0b11101001) = .ok (.wbWrIncrWrap4 .m1 0x123 0xF 0xABCD) ∧
    decode Config.ref (wbWord 0b11101010) = .ok (.wbWrIncrWrap8 .m1 0x123 0xF 0xABCD) ∧
    decode Config.ref (wbWord 0b11101011) = .ok (.wbWrIncrWrap16 .m1 0x123 0xF 0xABCD) ∧
    decode Config.ref (wbWord 0b11101110) = .ok (.wbWrRsvd3 .m1 0x123 0xF 0xABCD) ∧
    decode Config.ref (wbWord 0b11110000) = .ok (.wbWrRsvd45 .m1 0x123 0xF 0xABCD) ∧
    decode Config.ref (wbWord 0b11110111) = .ok (.wbWrRsvd45 .m1 0x123 0xF 0xABCD) ∧
    decode Config.ref (wbWord 0b11111001) = .ok (.wbWrRsvd6 .m1 0x123 0xF 0xABCD) ∧
    decode Config.ref (wbWord 0b11111101) = .ok (.wbWrEob .m1 0x123 0xF 0xABCD) := by decide

/-- A beat to the register region as a lane sees it. -/
def laneWord (bk : Nat) : OpWord := ⟨.br, bk, { adr := 0x20000004, sel := 0b0101, we := true, datW := 0x41 }⟩

-- mc_state = CYCLE, mc_beat; VK; br_beat, br_ack, br_cnt[2:0]
theorem test_decode_mc_adv_br :
    decode Config.ref ⟨.mc, 0b00, { adr := 5 }⟩ = .ok .mcIdle ∧
    decode Config.ref ⟨.mc, 0b01, { adr := 5 }⟩ = .ok (.mcLatch 5) ∧
    decode Config.ref ⟨.mc, 0b10, { adr := 5 }⟩ = .ok .mcRelease ∧
    decode Config.ref ⟨.mc, 0b11, { we := true, sel := 6, datW := 9, cti := 2, bte := 1 }⟩ = .ok (.mcBeat true 6 9 2 1) ∧
    decode Config.ref ⟨.adv, 0b00, {}⟩ = .ok .advLinear ∧ decode Config.ref ⟨.adv, 0b01, {}⟩ = .ok .advWrap4 ∧
    decode Config.ref ⟨.adv, 0b10, {}⟩ = .ok .advWrap8 ∧ decode Config.ref ⟨.adv, 0b11, {}⟩ = .ok .advWrap16 ∧
    decode Config.ref (laneWord 0b01100) = .ok .brIdle ∧
    decode Config.ref (laneWord 0b10000) = .ok (.brLane0 0x20000004 0b0101 true 0x41) ∧
    decode Config.ref (laneWord 0b10001) = .ok (.brLane1 0x20000004 0b0101 true 0x41) ∧
    decode Config.ref (laneWord 0b10010) = .ok (.brLane2 0x20000004 0b0101 true 0x41) ∧
    decode Config.ref (laneWord 0b10011) = .ok (.brLane3 0x20000004 0b0101 true 0x41) ∧
    decode Config.ref (laneWord 0b10100) = .ok .brCollect ∧ decode Config.ref (laneWord 0b10111) = .ok .brCollect ∧
    decode Config.ref (laneWord 0b11000) = .ok .brAck ∧ decode Config.ref (laneWord 0b11011) = .ok .brAck := by decide

-- csr_r_stb, csr_w_stb; csr_w_stb, csr_addr[4:0]
theorem test_decode_csr_reg :
    decode Config.ref ⟨.csr, 0b00, {}⟩ = .ok .csrNop ∧
    decode Config.ref ⟨.csr, 0b10, { csrAddr := 0x0C }⟩ = .ok (.csrRd 0x0C) ∧
    decode Config.ref ⟨.csr, 0b01, { csrAddr := 0x10, csrWData := 0x41 }⟩ = .ok (.csrWr 0x10 0x41) ∧
    decode Config.ref ⟨.reg, 0b000000, {}⟩ = .ok (.ctrlRd 0) ∧ decode Config.ref ⟨.reg, 0b000001, {}⟩ = .ok (.ctrlRd 1) ∧
    decode Config.ref ⟨.reg, 0b100000, { csrWData := 7 }⟩ = .ok (.ctrlWr 0 7) ∧
    decode Config.ref ⟨.reg, 0b100001, { csrWData := 7 }⟩ = .ok (.ctrlWr 1 7) ∧
    decode Config.ref ⟨.reg, 0b000100, {}⟩ = .ok .rxInfoRd ∧ decode Config.ref ⟨.reg, 0b001000, {}⟩ = .ok .rxDataRd ∧
    decode Config.ref ⟨.reg, 0b001100, {}⟩ = .ok .txInfoRd ∧
    decode Config.ref ⟨.reg, 0b110000, { csrWData := 0x41 }⟩ = .ok (.txDataWr 0x41) ∧
    decode Config.ref ⟨.reg, 0b010000, {}⟩ = .ok (.regRdNone 0x10) ∧
    decode Config.ref ⟨.reg, 0b000010, {}⟩ = .ok (.regRdNone 0x02) ∧
    decode Config.ref ⟨.reg, 0b101000, { csrWData := 0xFF }⟩ = .ok (.regWrNone 0x08 0xFF) := by decide

-- do_write, do_read; rx_rdy, w_rdy; tx_rdy, r_rdy
theorem test_decode_fifo_ux :
    decode Config.ref ⟨.fifo, 0b00, { fifo := .tx }⟩ = .ok (.fifoNop .tx) ∧
    decode Config.ref ⟨.fifo, 0b10, { fifo := .rx, wData := 0x25A }⟩ = .ok (.fifoPush .rx 0x25A) ∧
    decode Config.ref ⟨.fifo, 0b01, { fifo := .rx }⟩ = .ok (.fifoPop .rx) ∧
    decode Config.ref ⟨.fifo, 0b11, { fifo := .tx, wData := 0x42 }⟩ = .ok (.fifoPushPop .tx 0x42) ∧
    decode Config.ref ⟨.ux, 0b01, { fifo := .rx }⟩ = .ok .rxIdle ∧
    decode Config.ref ⟨.ux, 0b11, { fifo := .rx, rxData := 0x5A, rxFerr := true }⟩ = .ok (.rxAccept 0x5A false true false) ∧
    decode Config.ref ⟨.ux, 0b10, { fifo := .rx }⟩ = .ok .rxRefuse ∧
    decode Config.ref ⟨.ux, 0b01, { fifo := .tx }⟩ = .ok (.txIdle true) ∧
    decode Config.ref ⟨.ux, 0b00, { fifo := .tx }⟩ = .ok (.txIdle false) ∧
    decode Config.ref ⟨.ux, 0b11, { fifo := .tx }⟩ = .ok .txPull ∧
    decode Config.ref ⟨.ux, 0b10, { fifo := .tx }⟩ = .ok .txEmpty := by decide

-- adr[29:0] (examples of R263, R264, R265); grant, m1.cyc, m0.cyc
theorem test_decode_dec_arb :
    decode Config.ref ⟨.dec, 0x000003FF, { cyc := true, stb := true }⟩ = .ok (.decMem { cyc := true, stb := true, adr := 0x3FF }) ∧
    decode Config.ref ⟨.dec, 0x20000004, {}⟩ = .ok (.decCsr { adr := 0x20000004 }) ∧
    decode Config.ref ⟨.dec, 0x00000400, {}⟩ = .ok (.decMiss { adr := 0x400 }) ∧
    decode Config.ref ⟨.dec, 0x20000008, {}⟩ = .ok (.decMiss { adr := 0x20000008 }) ∧
    decode Config.ref ⟨.arb, 0b001, {}⟩ = .ok .arbHold0 ∧ decode Config.ref ⟨.arb, 0b011, {}⟩ = .ok .arbHold0 ∧
    decode Config.ref ⟨.arb, 0b110, {}⟩ = .ok .arbHold1 ∧ decode Config.ref ⟨.arb, 0b111, {}⟩ = .ok .arbHold1 ∧
    decode Config.ref ⟨.arb, 0b010, {}⟩ = .ok .arbSwitch01 ∧ decode Config.ref ⟨.arb, 0b101, {}⟩ = .ok .arbSwitch10 ∧
    decode Config.ref ⟨.arb, 0b000, {}⟩ = .ok .arbPark0 ∧ decode Config.ref ⟨.arb, 0b100, {}⟩ = .ok .arbPark1 := by decide

theorem test_decode_refuses :
    decode Config.ref ⟨.csr, 0b11, {}⟩ = .error .bothStrobes ∧
    decode Config.ref ⟨.csr, 0b10, { csrAddr := 0x20 }⟩ = .error .outsideRegion ∧
    decode Config.ref ⟨.csr, 0b01, { csrAddr := 0x20 }⟩ = .error .outsideRegion ∧
    decode Config.ref ⟨.fifo, 0b10, { fifo := .tx, wData := 256 }⟩ = .error .entryTooWide ∧
    decode Config.ref ⟨.fifo, 0b11, { fifo := .tx, wData := 256 }⟩ = .error .entryTooWide ∧
    decode Config.ref ⟨.wb, 256, {}⟩ = .error (.keyTooWide .wb) ∧
    decode Config.ref ⟨.reg, 64, {}⟩ = .error (.keyTooWide .reg) := by decide

theorem test_table_words :
    decodeTableWord 8 0xC9 = some (.wbRdIncrWrap4 .m0 0 0) ∧ decodeTableWord 32 0x20000000 = some (.decCsr { adr := 0x20000000 }) ∧
    decodeTableWord 8 0x08 = some .rxDataRd ∧ decodeTableWord 8 0x11 = some (.brLane1 0 0 false 0) := by decide

/-! One clock cycle of a port (examples of R125 to R146). -/

/-- The Memory Controller in CYCLE at index `a` over the array of R120. -/
def inCycle (a : Index) : Elements := { mcState := .cycle, mcAdr := a, mem := mem120 }

theorem test_idle_gives_the_grant_away :  -- R125
    onNext (step (fabric {} [{ m1 := ⟨0x80, 0, 0, 0⟩ }])) (fun t => decide (t.el.grant = .m1)) = true := by decide
theorem test_wait_releases_the_controller :  -- R126
    onNext (exec (.wbWait .m0 5) (fabric (inCycle 6))) (fun t => decide (t.el.mcState = .idle) && !t.out.m0.ack) = true := by
  decide
theorem test_read_latches_first :  -- R127, cycle 0
    onNext (step (fabric { mem := mem120 } [row0 0xC0 5 0xF 0]))
      (fun t => !t.out.m0.ack && decide (t.el.mcAdr = 5) && decide (t.el.mcState = .cycle)) = true := by decide
theorem test_read_acknowledges_second :  -- R127, cycle 1
    onNext (step (fabric (inCycle 5) [row0 0xC0 5 0xF 0]))
      (fun t => decide (t.out.m0 = ⟨true, false, 0x55⟩) && decide (t.el.mcAdr = 6)) = true := by decide
theorem test_write_merges_lanes :  -- R128
    onNext (exec (.wbWrClassic .m0 5 0x6 0x11223344) (fabric (inCycle 5)))
      (fun t => decide (t.el.mem.readWord 5 = 0x00223355) && t.out.m0.ack) = true := by decide
theorem test_const_advances :  -- R129
    onNext (exec (.wbRdConst .m0 5 0xF) (fabric (inCycle 5))) (fun t => decide (t.el.mcAdr = 6)) = true := by decide
theorem test_write_const :  -- R130
    onNext (exec (.wbWrConst .m0 5 0xF 1) (fabric (inCycle 5))) (fun t => decide (t.el.mem.readWord 5 = 1)) = true := by decide
theorem test_linear_wraps_at_the_top :  -- R131
    onNext (exec (.wbRdIncrLinear .m0 0 0xF) (fabric (inCycle 0x3FF))) (fun t => decide (t.el.mcAdr = 0)) = true := by decide
theorem test_wrap4_read :  -- R132
    onNext (exec (.wbRdIncrWrap4 .m0 6 0xF) (fabric (inCycle 7)))
      (fun t => decide (t.out.m0.datR = 0x77) && decide (t.el.mcAdr = 4)) = true := by decide
theorem test_wrap8_read :  -- R133
    onNext (exec (.wbRdIncrWrap8 .m0 6 0xF) (fabric (inCycle 7))) (fun t => decide (t.el.mcAdr = 0)) = true := by decide
theorem test_wrap16_read :  -- R134
    onNext (exec (.wbRdIncrWrap16 .m0 6 0xF) (fabric (inCycle 0x1F))) (fun t => decide (t.el.mcAdr = 0x10)) = true := by decide
theorem test_linear_write :  -- R135
    onNext (exec (.wbWrIncrLinear .m0 5 0xF 0xB) (fabric (inCycle 6)))
      (fun t => decide (t.el.mem.readWord 6 = 0xB) && decide (t.el.mcAdr = 7)) = true := by decide
theorem test_wrap4_write :  -- R136
    onNext (exec (.wbWrIncrWrap4 .m0 7 0xF 1) (fabric (inCycle 7)))
      (fun t => decide (t.el.mem.readWord 7 = 1) && decide (t.el.mcAdr = 4)) = true := by decide
theorem test_wrap8_write :  -- R137
    onNext (exec (.wbWrIncrWrap8 .m0 7 0xF 1) (fabric (inCycle 7))) (fun t => decide (t.el.mcAdr = 0)) = true := by decide
theorem test_wrap16_write :  -- R138
    onNext (exec (.wbWrIncrWrap16 .m0 7 0xF 1) (fabric (inCycle 0xF)))
      (fun t => decide (t.el.mem.readWord 0xF = 1) && decide (t.el.mcAdr = 0)) = true := by decide
theorem test_eob_advances_linearly :  -- R145
    onNext (exec (.wbRdEob .m0 6 0xF) (fabric (inCycle 5)))
      (fun t => decide (t.out.m0.datR = 0x55) && decide (t.el.mcAdr = 6)) = true := by decide
theorem test_miss_answers_err :  -- R265
    onNext (exec (.wbWrEob .m0 0x10000000 0xF 1) (fabric (inCycle 5)))
      (fun t => decide (t.out.m0 = ⟨false, true, 0⟩) && decide (t.el.mem = mem120)) = true := by decide
theorem test_ungranted_write_does_nothing :  -- R291
    onNext (exec (.wbWrRsvd6 .m1 5 0xF 1) (fabric (inCycle 5))) (fun t => decide (t.el = inCycle 5)) = true := by decide
theorem test_read_only_memory :  -- R166
    onNext (exec (.wbWrClassic .m0 5 0xF 1) (fabricOf { Config.ref with memWritable := false } (inCycle 5)))
      (fun t => t.out.m0.ack && decide (t.el.mem = mem120)) = true := by decide

/-! The components. -/

theorem test_latch :  -- R161
    onNext (exec (.mcLatch 0x405) (fabric {})) (fun t => decide (t.el.mcAdr = 5) && decide (t.el.mcState = .cycle)) = true := by
  decide
theorem test_beat :  -- R162
    onNext (exec (.mcBeat false 0xF 0 0b010 0b01) (fabric (inCycle 5)))
      (fun t => decide (t.wires.p = ⟨true, 0x55⟩) && decide (t.el.mcAdr = 6)) = true := by decide
theorem test_release_keeps_the_address :  -- R163
    onNext (exec .mcRelease (fabric (inCycle 5))) (fun t => decide (t.el = { inCycle 5 with mcState := .idle })) = true := by decide
theorem test_advances :  -- R167, R168, R169, R171
    onNext (exec .advLinear (fabric (inCycle 0x3FF))) (fun t => decide (t.el.mcAdr = 0)) = true ∧
    onNext (exec .advWrap4 (fabric (inCycle 0x3FF))) (fun t => decide (t.el.mcAdr = 0x3FC)) = true ∧
    onNext (exec .advWrap8 (fabric (inCycle 0x00F))) (fun t => decide (t.el.mcAdr = 0x008)) = true ∧
    onNext (exec .advWrap16 (fabric (inCycle 0x3F0))) (fun t => decide (t.el.mcAdr = 0x3F1)) = true := by decide
theorem test_lane0_pushes :  -- R194
    onNext (exec (.brLane0 0x20000004 0x1 true 0x41) (fabric {}))
      (fun t => decide (t.wires.narrow = ⟨0x10, false, true, 0x41⟩) && decide (t.el.txFifo = [0x41]) && decide (t.el.brCnt = 1)) = true := by
  decide
theorem test_lane1_collects :  -- R195
    onNext (exec (.brLane1 0x20000000 0xF false 0) (fabric { brCnt := 1, csrRdata := 0x34, brDat := 0xAABBCCDD }))
      (fun t => decide (t.el.brDat = 0xAABBCC34) && decide (t.el.brCnt = 2)) = true := by decide
theorem test_lane2_not_selected :  -- R196
    onNext (exec (.brLane2 0x20000000 0xB false 0) (fabric { brCnt := 2, csrRdata := 0x12, brDat := 0xAABBCC34 }))
      (fun t => decide (t.el.brDat = 0xAABB1234) && decide (t.el.csrRdata = 0)) = true := by decide
theorem test_lane3_address :  -- R197
    onNext (exec (.brLane3 0x20000000 0xF false 0) (fabric { brCnt := 3, csrRdata := 0x77 }))
      (fun t => decide (t.wires.narrow.addr = 3) && decide (t.el.brDat = 0x00770000)) = true := by decide
theorem test_lane_not_selected_shows_its_lines :  -- R101, R102, R192
    onNext (exec (.brLane1 0x20000004 0x1 true 0x4342) (fabric { brCnt := 1 }))
      (fun t => decide (t.wires.narrow = ⟨0x11, false, false, 0x43⟩)) = true ∧
    onNext (step (fabric { brCnt := 2 } [row0 0x00 0x123 0x0 0x00AB0000]))
      (fun t => decide (t.wires.narrow = ⟨0x0E, false, false, 0xAB⟩) && decide (t.el.brCnt = 0)) = true := by decide
theorem test_collect :  -- R198
    onNext (exec .brCollect (fabric { brCnt := 4, csrRdata := 0x99, brDat := 0xAABBCCDD }))
      (fun t => decide (t.el.brDat = 0x99BBCCDD) && t.el.brAck && decide (t.el.brCnt = 0)) = true := by decide
theorem test_csr_read_info :  -- R201
    onNext (exec (.csrRd 0x0C) (fabric {})) (fun t => decide (t.el.csrRdata = 1)) = true := by decide
theorem test_csr_write_pushes :  -- R202
    onNext (exec (.csrWr 0x10 0x41) (fabric { csrRdata := 9 }))
      (fun t => decide (t.el.txFifo = [0x41]) && decide (t.el.csrRdata = 0)) = true := by decide
theorem test_ctrl_read :  -- R207
    onNext (exec (.ctrlRd 0) (fabric { divisor := 0x1234 })) (fun t => decide (t.wires.regV = 0x34)) = true ∧
    onNext (exec (.ctrlRd 1) (fabric { divisor := 0x1234 })) (fun t => decide (t.wires.regV = 0x12)) = true := by decide
theorem test_ctrl_write :  -- R208
    onNext (exec (.ctrlWr 1 0x12) (fabric { divisor := 0x0034 })) (fun t => decide (t.el.divisor = 0x1234)) = true := by decide
theorem test_ctrl_write_drops_missing_bits :  -- R208
    onNext (exec (.ctrlWr 1 0xFF) (fabricOf { Config.ref with divisorWidth := 12 } { divisor := 0x034 }))
      (fun t => decide (t.el.divisor = 0xF34)) = true := by decide
theorem test_unlisted :  -- R206, R213
    onNext (exec (.regRdNone 0x10) (fabric { txFifo := [0x41] })) (fun t => decide (t.wires.regV = 0)) = true ∧
    onNext (exec (.csrWr 0x08 0xFF) (fabric { rxFifo := [0x25A] })) (fun t => decide (t.el.rxFifo = [0x25A])) = true := by decide
theorem test_rx_info :  -- R235
    onNext (exec .rxInfoRd (fabric { rxFifo := [0x25A] }))
      (fun t => decide (t.wires.regV = 0x05) && decide (t.el.rxFifo = [0x25A])) = true := by decide
theorem test_rx_data :  -- R232
    onNext (exec .rxDataRd (fabric { rxFifo := [0x25A] }))
      (fun t => decide (t.wires.regV = 0x5A) && decide (t.el.rxFifo = [])) = true := by decide
theorem test_tx_info_full :  -- R236
    onNext (exec .txInfoRd (fabric { txFifo := [1, 2, 3, 4] })) (fun t => decide (t.wires.regV = 0)) = true := by decide
theorem test_tx_data_full :  -- R233
    onNext (exec (.txDataWr 5) (fabric { txFifo := [1, 2, 3, 4] })) (fun t => decide (t.el.txFifo = [1, 2, 3, 4])) = true := by
  decide
theorem test_fifo :  -- R228, R229, R234
    onNext (exec (.fifoPush .tx 0x42) (fabric { txFifo := [0x41] })) (fun t => decide (t.el.txFifo = [0x41, 0x42])) = true ∧
    onNext (exec (.fifoPop .tx) (fabric { txFifo := [0x41, 0x42] }))
      (fun t => decide (t.el.txFifo = [0x42]) && decide (t.wires.txRData = 0x41)) = true ∧
    onNext (exec (.fifoPushPop .tx 0x42) (fabric { txFifo := [0x41] })) (fun t => decide (t.el.txFifo = [0x42])) = true := by decide
theorem test_accept :  -- R230
    onNext (exec (.rxAccept 0x5A false true false) (fabric {})) (fun t => decide (t.el.rxFifo = [0x25A]) && t.out.rxAck) = true := by
  decide
theorem test_refuse :  -- R237
    onNext (step (fabric { rxFifo := [1, 2, 3, 4] } [{ x := { rxRdy := true, rxData := 5 } }]))
      (fun t => !t.out.rxAck && decide (t.el.rxFifo = [1, 2, 3, 4])) = true := by decide
theorem test_pull :  -- R231, R233
    onNext (step (fabric { txFifo := [0x41] } [{ x := { txRdy := true } }]))
      (fun t => t.out.txAck && decide (t.out.txData = 0x41) && decide (t.el.txFifo = [])) = true := by decide
theorem test_tx_idle_shows_the_head :  -- R240
    onNext (step (fabric { txFifo := [0x41] })) (fun t => !t.out.txAck && decide (t.out.txData = 0x41)) = true := by decide
theorem test_switch :  -- R286, R287
    onNext (step (fabric { grant := .m1 } [{ m0 := ⟨0xC0, 0, 0, 0⟩ }])) (fun t => decide (t.el.grant = .m0) && !t.out.m0.ack) = true ∧
    onNext (step (fabric { grant := .m1 } [{ m0 := ⟨0xC0, 0, 0, 0⟩, m1 := ⟨0x80, 0, 0, 0⟩ }]))
      (fun t => decide (t.el.grant = .m1)) = true := by decide
theorem test_reset_outputs :  -- R351
    onNext (step (State.resetOf { Config.ref with memInit := [0x13], divisorReset := 7 }))
      (fun t => decide (t.out.m0 = ⟨false, false, 0x13⟩) && decide (t.out.divisor = 7) && !t.out.txAck) = true := by decide
theorem test_fetch_word :  -- R125: the table word 0x80 runs WB.WAIT
    onNext (step (State.reset.withFetchWord 8 0x80)) (fun t => decide (t.inp.m0.cw = 0x80)) = true := by decide

/-! Witnesses. -/

/-- A state in the middle of things: a register read in its third clock cycle, entries in both FIFOs. -/
def busy : State :=
  fabric
    { grant := .m1, mcAdr := 0x3FF, mem := mem120, brDat := 0x12, brCnt := 2, csrRdata := 0x34, divisor := 0xFFFF
      rxFifo := [0x25A, 0x101], txFifo := [1, 2, 3, 4] }
    [{ m1 := ⟨0xC0, 0x20000000, 0xF, 0⟩, x := { rxRdy := true, txRdy := true } }]

theorem busy_inv : busy.Inv :=
  { legal := by decide, cnt := by decide, ack := by decide, rxLen := by decide, txLen := by decide, adr := by decide
    divisor := by decide, memForm := by decide, memSize := by decide, rxVis := ⟨rfl, rfl⟩, txVis := ⟨rfl, rfl⟩ }

theorem busy_next : ∃ t, step busy = .next t := next_of_onNext (by decide)

theorem witness_DecodeInvertsEncode :
    Config.ref.legal = true ∧ (Instr.regWrNone 0x1F 3).wf Config.ref = true ∧ (Instr.ctrlWr 1 3).wf Config.ref = true ∧
    (Instr.decCsr { adr := 0x20000007 }).wf Config.ref = true := by decide
theorem witness_DecodedOperationsAreWellFormed :
    Config.ref.legal = true ∧ decode Config.ref ⟨.csr, 0b10, { csrAddr := 0x1F }⟩ = .ok (.csrRd 0x1F) := by decide
theorem witness_ControlWordSelectsOneOfTwentyTwoOperations :
    ∃ r ∈ wbKeyRows, r.selects .wb .rx (0xC9#8).toNat = true := by decide
theorem witness_ComponentKeysSelectTheirOperations :
    ∃ r ∈ componentKeyRows, (2 < 2 ^ r.fmt.keyWidth Config.ref ∧ r.selects r.fmt .tx 2 = true) ∧
      (r.op { fifo := .tx, wData := 255 }).wf Config.ref = true := by decide
theorem witness_RegisterKeysSelectTheirOperations :
    Config.ref.legal = true ∧ (1#2).toNat < Config.ref.ctrlBytes ∧
    (0x02 < Config.ref.csrSize ∧ Config.ref.offCtrl + Config.ref.ctrlBytes ≤ 0x02 ∧ 0x02 ≠ Config.ref.offRxInfo ∧
      0x02 ≠ Config.ref.offRxData ∧ 0x02 ≠ Config.ref.offTxInfo) ∧
    (0x1F < Config.ref.csrSize ∧ Config.ref.offCtrl + Config.ref.ctrlBytes ≤ 0x1F ∧ 0x1F ≠ Config.ref.offTxData) := by decide
theorem witness_DecoderRefusesByName :
    decode Config.ref ⟨.csr, 0b11, {}⟩ = .error .bothStrobes ∧ Config.ref.csrSize ≤ (0x20#32).toNat ∧
    256 ≤ ({ fifo := .tx, wData := 256 } : Args).wData.toNat ∧ 2 ^ Format.keyWidth Config.ref .mc ≤ 4 := by decide
theorem witness_StepRunsTheDecodedOperations :
    busy.cfg.legal = true ∧
    decode busy.cfg ⟨.wb, 0x00, wbArgs .m0 0 0 0⟩ = .ok (.wbIdle .m0 0) ∧
    decode busy.cfg ⟨.wb, 0xC0, wbArgs .m1 0x20000000 0xF 0⟩ = .ok (.wbRdClassic .m1 0x20000000 0xF) ∧
    decode busy.cfg ⟨.ux, 2 * busy.nextRow.x.rxRdy.toNat + busy.rxWriteReady.toNat, { fifo := .rx }⟩
      = .ok (.rxAccept 0 false false false) ∧
    decode busy.cfg ⟨.ux, 2 * busy.nextRow.x.txRdy.toNat + busy.txReadReady.toNat, { fifo := .tx }⟩ = .ok .txPull ∧
    (busy.nextRow.bracket .m1).cw.toNat = 0xC0 ∧ (busy.nextRow.bracket .m0).cw.toNat = 0x00 := by decide
theorem witness_StepIsTheFlatStepFunction : busy.cfg.legal = true := by decide
theorem witness_StepPerformsOneOperationOfEachComponent :
    busy.cfg.legal = true ∧ ({ Config.ref with fifoMode := .laggingFlags } : Config).legal = true := by decide
theorem witness_IllegalConfigurationIsRefused :
    (fabricOf { Config.ref with memSize := 0x1800 } {}).cfg.legal = false ∧ State.reset.cfg.legal = true := by decide
/-- A fabric in lagging mode whose FIFOs hide entries and slots. -/
def lagging : State :=
  fabricOf { Config.ref with fifoMode := .laggingFlags }
    { rxFifo := [0x25A, 0x101], txFifo := [1, 2, 3], rxVis := { hidW := 2, hidR := 2, dueW := 5 }, txVis := { hidW := 3, hidR := 1 } }

theorem witness_FabricNeverHaltsAndFlagsRise :
    busy.cfg.legal = true ∧ lagging.Inv ∧ lagging.el.rxFifo ≠ [] ∧ lagging.rxReadReady = false ∧
    lagging.el.rxFifo.length < lagging.cfg.rxDepth ∧ lagging.rxWriteReady = false ∧
    lagging.el.txFifo ≠ [] ∧ lagging.el.txFifo.length < lagging.cfg.txDepth :=
  ⟨by decide,
    { legal := by decide, cnt := by decide, ack := by decide, rxLen := by decide, txLen := by decide, adr := by decide
      divisor := by decide, memForm := by decide, memSize := by decide, rxVis := ⟨by decide, by decide⟩
      txVis := ⟨by decide, by decide⟩ },
    by decide, by decide, by decide, by decide, by decide, by decide⟩
theorem witness_ResetMeetsTheInvariants :
    ({ Config.ref with memInit := [0x13, 0x93], divisorReset := 0xFFFF } : Config).legal = true := by decide
theorem witness_SignalsDoNotSurviveTheEdge :
    ({ busy with out := { rxAck := true } } : State) ≠ busy ∧ ({ busy with out := { rxAck := true } } : State).el = busy.el := by
  decide
theorem witness_StepKeepsTheInvariants : busy.Inv ∧ ∃ t, step busy = .next t := ⟨busy_inv, busy_next⟩
theorem witness_OutputsOfTheFirstClockCycle : Config.ref.legal = true ∧ Config.ref.memBase = 0 := by decide
theorem witness_ControllerBeatServesOneWord : (fabric (inCycle 5)).el.mem.wf = true := by decide
theorem witness_AdvanceCountsInItsWindow :
    2 ≤ ({ Config.ref with memSize := 16 } : Config).memAW ∧ 3 ≤ ({ Config.ref with memSize := 32 } : Config).memAW ∧
    4 ≤ ({ Config.ref with memSize := 64 } : Config).memAW ∧
    (1#30).toNat < 2 ^ ({ Config.ref with memSize := 8 } : Config).memAW ∧ ({ Config.ref with memSize := 8 } : Config).memAW < 2 ∧
    ({ Config.ref with memSize := 16 } : Config).memAW < 3 ∧ ({ Config.ref with memSize := 32 } : Config).memAW < 4 := by decide
theorem witness_WrapBurstReturnsAfterItsWindow :
    4 ≤ 2 ^ ({ Config.ref with memSize := 16 } : Config).memAW ∧ 8 ≤ 2 ^ ({ Config.ref with memSize := 32 } : Config).memAW ∧
    16 ≤ 2 ^ ({ Config.ref with memSize := 64 } : Config).memAW := by decide

/-- The fabric at rest over the array of R120, m0 granted. -/
def atRest (script : List Row) : State := fabric { mem := mem120 } script

theorem atRest_inv (script : List Row) : (atRest script).Inv :=
  { legal := test_ref_legal, cnt := Nat.zero_le _, ack := (by intro h; cases h), rxLen := Nat.zero_le _, txLen := Nat.zero_le _
    adr := show (0#30).toNat < Config.ref.memWords by decide, divisor := show (0#32).toNat < 2 ^ Config.ref.divisorWidth by decide
    memForm := show mem120.wf = true by decide, memSize := show ∀ cell ∈ mem120, cell.1 < Config.ref.memSize by decide
    rxVis := ⟨rfl, rfl⟩, txVis := ⟨rfl, rfl⟩ }

theorem witness_ReadBurstReturnsConsecutiveWords :
    let s := atRest [row0 0xC9 6 0xF 0, row0 0xC8 9 0x1 7, row0 0xDC 6 0xF 0]
    s.Inv ∧ s.el.grant = .m0 ∧ s.el.mcState = .idle ∧
      ∀ k ≤ 2, (s.requestAt .m0 k).cyc = true ∧ (s.requestAt .m0 k).stb = true ∧ (s.requestAt .m0 k).we = false ∧
        selMem s.cfg (s.requestAt .m0 k).adr = true :=
  ⟨atRest_inv _, by decide, by decide, by decide⟩
theorem witness_WriteIsReadBack :
    let s := atRest [row0 0xE0 5 0x6 0x11223344, row0 0xE0 5 0x6 0x11223344, row0 0x80 5 0 0, row0 0xC0 5 0xF 0, row0 0xC0 5 0xF 0]
    s.Inv ∧ s.cfg.memWritable = true ∧ s.el.grant = .m0 ∧ s.el.mcState = .idle ∧ selMem s.cfg 5 = true ∧
      s.requestAt .m0 0 = writeRequest 0 0 5 0x6 0x11223344 ∧ s.requestAt .m0 1 = writeRequest 0 0 5 0x6 0x11223344 ∧
      s.requestAt .m0 2 = waitRequest 5 0 0 ∧ s.requestAt .m0 3 = readRequest 0 0 5 0xF 0 ∧
      s.requestAt .m0 4 = readRequest 0 0 5 0xF 0 :=
  ⟨atRest_inv _, by decide, by decide, by decide, by decide, by decide, by decide, by decide, by decide, by decide⟩
theorem witness_NarrowAddressIsTheByteOffset :
    (Config.ref.legal = true ∧ 3 < 4 ∧ selCsr Config.ref 0x20000007 = true) ∧ ∃ t, step busy = .next t :=
  ⟨by decide, busy_next⟩
theorem witness_NarrowBusPerformsTheRegisterOperation : (0x1F#32).toNat < Config.ref.csrSize := by decide
theorem witness_ControlRegisterIsBytewise :
    (1#2).toNat < busy.cfg.ctrlBytes ∧ busy.cfg.legal = true ∧ busy.el.divisor.toNat < 2 ^ busy.cfg.divisorWidth := by decide
theorem witness_ReceiveInfoShowsTheOldestFlags :
    (busy.cfg.legal = true ∧ busy.rxReadReady = true ∧ busy.el.rxFifo = 0x25A :: [0x101]) ∧ State.reset.rxReadReady = false := by
  decide
theorem witness_ReceiveDataPopsTheOldestEntry :
    (busy.rxReadReady = true ∧ busy.el.rxFifo = 0x25A :: [0x101]) ∧ State.reset.rxReadReady = false := by decide
theorem witness_TransmitRegistersReportAndPush :
    (fabric { txFifo := [1, 2, 3] }).txWriteReady = true ∧ busy.txWriteReady = false := by decide
theorem witness_UnlistedRegistersDoNothing :
    readableByte Config.ref 0x10 = false ∧ readableByte Config.ref 0x02 = false ∧ writableByte Config.ref 0x08 = false ∧
    Config.ref.legal = true := by decide
theorem witness_BridgeTransactionTakesSixClockCycles :
    let b := readRequest 0 0 0x20000000 0xF 0
    let s := atRest (List.replicate 6 (row0 0xC0 0x20000000 0xF 0))
    s.Inv ∧ s.el.grant = .m0 ∧ s.el.brCnt = 0#3 ∧ s.el.brAck = false ∧ b.cyc = true ∧ b.stb = true ∧
      selCsr s.cfg b.adr = true ∧ ∀ k < 6, s.requestAt .m0 k = b :=
  ⟨atRest_inv _, by decide, by decide, by decide, by decide, by decide, by decide, by decide⟩
theorem witness_RegisterSideEffectsAreTheNamedOnes :
    (∃ t, step busy = .next t) ∧ busy.load.writeStrobe = false ∧
    ¬ (busy.load.readStrobe = true ∧ busy.load.narrowNow.toNat = busy.cfg.offRxData) := ⟨busy_next, by decide, by decide⟩
theorem witness_FifoOperationsKeepTheQueue : busy.el.rxFifo = 0x25A :: [0x101] ∧ busy.el.txFifo = 1 :: [2, 3, 4] := by decide
theorem witness_FifoFlagsNeverOverpromise :
    busy.cfg.fifoMode = .exactFlags ∧ 0 < busy.el.txFifo.length ∧ busy.el.txFifo.length ≤ busy.cfg.txDepth ∧
    0 < busy.el.rxFifo.length ∧ busy.el.rxFifo.length ≤ busy.cfg.rxDepth ∧
    writeReady .laggingFlags 4 2 ⟨1, 1, 0, 0⟩ = true ∧ readReady .laggingFlags 2 ⟨1, 1, 0, 0⟩ = true := by decide
theorem witness_ReceiverSideAcceptsOrRefuses : ({ fifo := .rx } : Args).fifo = .rx := rfl
theorem witness_TransmitterSidePullsOrWaits : ({ fifo := .tx } : Args).fifo = .tx ∧ busy.el.txFifo = 1 :: [2, 3, 4] := by decide
theorem witness_TransmittedBytesAreTheWrittenOnes : ∃ t, runFor 2 busy = .next t := next_of_onNext (by decide)
theorem witness_ReceivedEntriesArriveInOrder : ∃ t, runFor 2 busy = .next t := next_of_onNext (by decide)
theorem witness_RangesAreExactAndDisjoint : Config.ref.legal = true := by decide
theorem witness_DecoderRoutesTheRequest :
    selMem Config.ref 0x3FF = true ∧ (Config.ref.legal = true ∧ selCsr Config.ref 0x20000007 = true) ∧
    (selMem Config.ref 0x400 = false ∧ selCsr Config.ref 0x400 = false) := by decide
theorem witness_AtMostOneResponse : ∃ t, step busy = .next t := busy_next
theorem witness_GrantFollowsRoundRobin : ∃ t, step busy = .next t := busy_next
theorem witness_RequesterIsConnectedAfterTheHolder :
    let s := fabric {} [{ m0 := ⟨0x80, 0, 0, 0⟩, m1 := ⟨0xC0, 5, 0xF, 0⟩ }, { m1 := ⟨0xC0, 5, 0xF, 0⟩ }]
    s.cfg.legal = true ∧ (∀ k ≤ 1, (s.requestAt s.el.grant.other k).cyc = true) ∧
      (∀ k < 1, (s.requestAt s.el.grant k).cyc = true) ∧ (s.requestAt s.el.grant 1).cyc = false := by decide
theorem witness_WaitingPortHasNoInfluence :
    let s := fabric (inCycle 5) [{ m0 := ⟨0xC0, 5, 0xF, 0⟩, m1 := ⟨0xE0, 5, 0xF, 1⟩ }]
    let s' := fabric (inCycle 5) [{ m0 := ⟨0xC0, 5, 0xF, 0⟩, m1 := ⟨0x80, 9, 0, 0⟩ }]
    s' ≠ s ∧ s'.cfg = s.cfg ∧ s'.el = s.el ∧ s'.tick = s.tick ∧ s'.nextRow.x = s.nextRow.x ∧
      s'.requestAt s.el.grant 0 = s.requestAt s.el.grant 0 ∧
      (s'.requestAt s.el.grant.other 0).cyc = (s.requestAt s.el.grant.other 0).cyc ∧
      (∃ t, step s = .next t) ∧ ∃ t, step s' = .next t :=
  ⟨by decide, by decide, by decide, by decide, by decide, by decide, by decide, next_of_onNext (by decide),
    next_of_onNext (by decide)⟩
theorem witness_UngrantedPortGetsNoResponse :
    (fabric (inCycle 5)).el.grant ≠ .m1 ∧ Instr.wbWrClassic .m1 5 0xF 1 ∈ wbOps .m1 5 0xF 1 := by decide
theorem witness_GrantedPortWithoutBeat : busy.el.grant = .m1 := by decide
theorem witness_UnmappedBeatGetsErrAndNoEffect :
    (fabric (inCycle 5)).el.grant = .m0 ∧ decodeMiss Config.ref 0x400 = true ∧ decodeMiss Config.ref 0x20000008 = true := by decide
theorem witness_FirstMemoryBeatLatchesTheAddress :
    (atRest []).el.grant = .m0 ∧ selMem (atRest []).cfg 0x3FF = true ∧ (atRest []).el.mcState = .idle := by decide
theorem witness_MemoryReadBeatReturnsTheWord :
    (fabric (inCycle 0x3FF)).el.grant = .m0 ∧ selMem Config.ref 0 = true ∧ (fabric (inCycle 0x3FF)).el.mcState = .cycle := by decide
theorem witness_MemoryWriteBeatCommitsTheLanes :
    (fabric (inCycle 5)).el.mem.wf = true ∧ (fabric (inCycle 5)).el.grant = .m0 ∧ selMem Config.ref 5 = true ∧
    (fabric (inCycle 5)).el.mcState = .cycle := by decide
theorem witness_RegisterBeatPerformsTheBridgeOperation :
    busy.el.grant = .m1 ∧ selMem busy.cfg 0x20000000 = false ∧ selCsr busy.cfg 0x20000000 = true := by decide
theorem witness_OnlyWriteBeatsStoreToMemory :
    (fabric (inCycle 5)).el.mem.wf = true ∧ (∃ t, exec (.wbWrClassic .m0 5 0x6 0x11223344) (fabric (inCycle 5)) = .next t) ∧
    storeTarget (fabric (inCycle 5)) (.wbWrClassic .m0 5 0x6 0x11223344) = some (5, 0x6, 0x11223344) :=
  ⟨by decide, ⟨_, rfl⟩, by decide⟩
theorem witness_MemoryChangesOnlyOnItsAcknowledgeCycles :
    let s := fabric (inCycle 5) [row0 0xE0 5 0x6 0x11223344]
    s.el.mem.wf = true ∧ onNext (step s) (fun t => decide (t.el.mem.read 21 ≠ s.el.mem.read 21)) = true := by decide
theorem witness_IdleClockCycleBringsRest :
    let s := fabric (inCycle 5)
    (∃ t, step s = .next t) ∧ (s.requestAt .m0 0).cyc = false ∧ (s.requestAt .m1 0).cyc = false :=
  ⟨next_of_onNext (by decide), by decide, by decide⟩
theorem witness_ReferenceMasterHoldsItsBeat :
    let r : RefMaster := { todo := [.wr 0x80000010 0x41 1] }
    r.drive.request.stb = true ∧ strobed r.drive.request = true ∧ ({} : Response).ack = false ∧ ({} : Response).err = false := by
  decide

end Sys2Proof.Tests
end

/-! The scope of the model (00_scope.md): which configurations are legal (R7, R323), and the memory frame of the operations
(R10, R25, R84, R166). -/

namespace Sys2Proof.Machine

/-! Legality of a configuration (R7): each executable check against what it means. -/

theorem isPowerOfTwo_iff (n : Nat) : isPowerOfTwo n = true ↔ ∃ k, n = 2 ^ k := by
  rw [isPowerOfTwo, beq_iff_eq]
  constructor
  · exact fun h => ⟨Nat.log2 n, h.symm⟩
  · rintro ⟨k, rfl⟩
    rw [Nat.log2_two_pow]

/-- No address lies in both (start, length) ranges. -/
def noCommonAddress (r q : Nat × Nat) : Prop :=
  ∀ a : Nat, ¬ ((r.1 ≤ a ∧ a < r.1 + r.2) ∧ (q.1 ≤ a ∧ a < q.1 + q.2))

/-- The comparison of bounds decides disjointness of two ranges that are not empty: the larger start is the address to try. -/
theorem disjointRanges_iff {r q : Nat × Nat} (hr : 0 < r.2) (hq : 0 < q.2) :
    disjointRanges r q = true ↔ noCommonAddress r q := by
  have bounds : disjointRanges r q = true ↔ r.1 + r.2 ≤ q.1 ∨ q.1 + q.2 ≤ r.1 := by simp [disjointRanges]
  rw [bounds]
  constructor
  · intro h a
    omega
  · intro h
    have := h (max r.1 q.1)
    omega

theorem pairwiseDisjoint_iff_pairwise (l : List (Nat × Nat)) :
    pairwiseDisjoint l = true ↔ l.Pairwise fun r q => disjointRanges r q = true := by
  induction l with
  | nil => simp [pairwiseDisjoint]
  | cons r rs ih => simp [pairwiseDisjoint, ih]

/-- No register is empty: CTRL has a byte because the divisor has a bit (R35). -/
theorem Config.register_length_pos {c : Config} (hw : 1 ≤ c.divisorWidth) : ∀ r ∈ c.registers, 0 < r.2 := by
  have ctrl : 0 < c.ctrlBytes := by
    show 0 < (c.divisorWidth + 7) / 8
    omega
  simp [Config.registers, ctrl]

/-- The check on the registers says that no two of them share an address. -/
theorem Config.registers_disjoint_iff {c : Config} (hw : 1 ≤ c.divisorWidth) :
    pairwiseDisjoint c.registers = true ↔ c.registers.Pairwise noCommonAddress := by
  rw [pairwiseDisjoint_iff_pairwise]
  exact List.Pairwise.iff_of_mem fun hr hq =>
    disjointRanges_iff (Config.register_length_pos hw _ hr) (Config.register_length_pos hw _ hq)

/-- The checks of R7 one by one, in the order of `Config.checks`. -/
theorem Config.legal_iff_checks (c : Config) :
    c.legal = true ↔
      c.dataWidth = 32 ∧ c.granularity = 8 ∧ isPowerOfTwo c.memSize = true ∧ isPowerOfTwo c.csrSize = true ∧
      4 ≤ c.memSize ∧ 32 ≤ c.csrSize ∧ c.memBase % c.memSize = 0 ∧ c.csrBase % c.csrSize = 0 ∧
      c.memBase + c.memSize ≤ 2 ^ 32 ∧ c.csrBase + c.csrSize ≤ 2 ^ 32 ∧
      disjointRanges (c.memBase, c.memSize) (c.csrBase, c.csrSize) = true ∧
      (∀ r ∈ c.registers, r.1 + r.2 ≤ c.csrSize) ∧ pairwiseDisjoint c.registers = true ∧
      1 ≤ c.divisorWidth ∧ c.divisorWidth ≤ 32 ∧ 1 ≤ c.rxDepth ∧ 1 ≤ c.txDepth ∧
      c.memInit.length ≤ c.memWords ∧ c.divisorReset.toNat < 2 ^ c.divisorWidth := by
  simp only [Config.legal, Config.checks, List.all_cons, List.all_nil, List.all_eq_true, id_eq, Bool.and_eq_true,
    Bool.and_true, decide_eq_true_eq]

/-- What R7 and R6 (log entry 4) ask of a configuration, as arithmetic over its parameters. -/
theorem Config.legal_iff (c : Config) :
    c.legal = true ↔
      c.dataWidth = 32 ∧ c.granularity = 8 ∧ (∃ n, c.memSize = 2 ^ n) ∧ (∃ n, c.csrSize = 2 ^ n) ∧
      c.memSize ∣ c.memBase ∧ c.csrSize ∣ c.csrBase ∧
      noCommonAddress (c.memBase, c.memSize) (c.csrBase, c.csrSize) ∧
      (∀ r ∈ c.registers, r.1 + r.2 ≤ c.csrSize) ∧ c.registers.Pairwise noCommonAddress ∧
      1 ≤ c.divisorWidth ∧ c.divisorWidth ≤ 32 ∧ 1 ≤ c.rxDepth ∧ 1 ≤ c.txDepth ∧
      4 ≤ c.memSize ∧ 32 ≤ c.csrSize ∧ c.memBase + c.memSize ≤ 2 ^ 32 ∧ c.csrBase + c.csrSize ≤ 2 ^ 32 ∧
      c.memInit.length ≤ c.memSize / 4 ∧ c.divisorReset.toNat < 2 ^ c.divisorWidth := by
  have ranges (hm : 4 ≤ c.memSize) (hc : 32 ≤ c.csrSize) :
      disjointRanges (c.memBase, c.memSize) (c.csrBase, c.csrSize) = true ↔
        noCommonAddress (c.memBase, c.memSize) (c.csrBase, c.csrSize) :=
    disjointRanges_iff (Nat.lt_of_lt_of_le (by decide) hm) (Nat.lt_of_lt_of_le (by decide) hc)
  simp only [Config.legal_iff_checks, isPowerOfTwo_iff, ← Nat.dvd_iff_mod_eq_zero]
  constructor
  · rintro ⟨width, gran, memPow, csrPow, mem4, csr32, memAligned, csrAligned, memTop, csrTop, apart, inside, regsApart,
      div1, div32, rx1, tx1, init, reset⟩
    exact ⟨width, gran, memPow, csrPow, memAligned, csrAligned, (ranges mem4 csr32).mp apart, inside,
      (Config.registers_disjoint_iff div1).mp regsApart, div1, div32, rx1, tx1, mem4, csr32, memTop, csrTop, init, reset⟩
  · rintro ⟨width, gran, memPow, csrPow, memAligned, csrAligned, apart, inside, regsApart, div1, div32, rx1, tx1, mem4,
      csr32, memTop, csrTop, init, reset⟩
    exact ⟨width, gran, memPow, csrPow, mem4, csr32, memAligned, csrAligned, memTop, csrTop, (ranges mem4 csr32).mpr apart,
      inside, (Config.registers_disjoint_iff div1).mpr regsApart, div1, div32, rx1, tx1, init, reset⟩

/-! A step stops for an illegal configuration and for nothing else (R323). -/

/-- The arm of `exec` for each operation answers a next state (R320). -/
theorem exec_completes (i : Instr) (s : State) : ∃ t, exec i s = .next t := by
  cases i <;> exact ⟨_, rfl⟩

@[simp] theorem andThen_next (s : State) (f : State → Host.Outcome State Fault Refusal) : andThen (.next s) f = f s := rfl

/-- A legal fabric's clock cycle as its four operations and the edge; the states between them are named. -/
theorem step_of_legal {s : State} (h : s.cfg.legal = true) :
    ∃ a b c d, exec s.load.waitingOp s.load = .next a ∧ exec s.load.grantedOp a = .next b ∧
      exec s.load.rxOp b = .next c ∧ exec s.load.txOp c = .next d ∧ step s = .next (d.edge s.load) := by
  obtain ⟨a, ha⟩ := exec_completes s.load.waitingOp s.load
  obtain ⟨b, hb⟩ := exec_completes s.load.grantedOp a
  obtain ⟨c, hc⟩ := exec_completes s.load.rxOp b
  obtain ⟨d, hd⟩ := exec_completes s.load.txOp c
  exact ⟨a, b, c, d, ha, hb, hc, hd, by simp [step, h, ha, hb, hc, hd]⟩

theorem step_of_illegal {s : State} (h : s.cfg.legal = false) : step s = .refused .illegalConfiguration := by
  simp [step, h]

theorem step_refused_iff (s : State) : step s = .refused .illegalConfiguration ↔ s.cfg.legal = false := by
  refine ⟨fun hrefused => ?_, step_of_illegal⟩
  cases hlegal : s.cfg.legal with
  | false => rfl
  | true =>
    obtain ⟨_, _, _, d, _, _, _, _, hnext⟩ := step_of_legal hlegal
    cases hnext.symm.trans hrefused

/-- Settles O11: no operation stops, so the legality check is the step's only stop; each check means what R7 says of it,
the comparisons of bounds because no range of a legal configuration is empty. -/
theorem illegalConfigurationIsRefused : Obligations.IllegalConfigurationIsRefused :=
  ⟨step_refused_iff, Config.legal_iff⟩

/-! The memory frame: the memory every operation leaves is the word write of its `storeTarget`, or the memory it found. -/

/-- The memory after at most one word write, given as `storeTarget` gives it. -/
def Memory.store (m : Memory) : Option (Nat × BitVec 4 × Word) → Memory
  | none => m
  | some (idx, sel, v) => m.writeWord idx sel v

@[simp] theorem Memory.store_none (m : Memory) : m.store none = m := rfl
@[simp] theorem Memory.store_some (m : Memory) (idx : Nat) (sel : BitVec 4) (v : Word) :
    m.store (some (idx, sel, v)) = m.writeWord idx sel v := rfl

/-- MemWrite of R10, byte by byte: its four lanes together are the four offsets of the word. -/
theorem Memory.read_writeWord (m : Memory) (i : Nat) (sel : BitVec 4) (v : Word) (h : m.wf = true) (a : Nat) :
    (m.writeWord i sel v).read a = mergedByte m i sel v a := by
  have h0 := Memory.writeLane_wf m i sel v 0 h
  have h1 := Memory.writeLane_wf _ i sel v 1 h0
  have h2 := Memory.writeLane_wf _ i sel v 2 h1
  rw [Memory.writeWord, Memory.read_writeLane _ _ _ _ _ h2, Memory.read_writeLane _ _ _ _ _ h1,
    Memory.read_writeLane _ _ _ _ _ h0, Memory.read_writeLane _ _ _ _ _ h, mergedByte]
  by_cases hword : a / 4 = i
  · have hlane : a = 4 * i + a % 4 := by omega
    have hlt : a % 4 < 4 := Nat.mod_lt _ (by decide)
    generalize a % 4 = k at hlane hlt
    subst hlane
    interval_cases k <;> simp [hword]
  · have hbase : a ≠ 4 * i := by omega
    have hlane : ∀ k < 4, a ≠ 4 * i + k := by omega
    simp [hword, hbase, hlane]

/-- MC.BEAT's memory (R162, R166). -/
theorem State.mcBeat_mem (s : State) (we : Bool) (sel : BitVec 4) (datW : Word) (cti : BitVec 3) (bte : BitVec 2) :
    (s.mcBeat we sel datW cti bte).el.mem = s.el.mem.store (storeTarget s (.mcBeat we sel datW cti bte)) := by
  rw [State.mcBeat_el]
  cases we <;> cases hw : s.cfg.memWritable <;> simp [storeTarget, hw]

/-- Without a beat the controller leaves the array alone (R163, R164). -/
theorem State.mcPerform_no_beat_mem (s : State) (b : Request) : (s.mcPerform false b).el.mem = s.el.mem := by
  rcases s.mcPerform_cases false b with ⟨_, _, h⟩ | ⟨_, hbeat, _⟩ | ⟨_, _, h⟩ | ⟨_, hbeat, _⟩
  · rw [h, State.mcIdle_el]
  · cases hbeat
  · rw [h, State.mcRelease_el]
  · cases hbeat

/-- The Bridge and the narrow bus leave the array alone (R84). -/
theorem outsideBridge_mem {e f : Elements} (h : outsideBridge e f) : f.mem = e.mem := by
  obtain ⟨_, _, _, hmem⟩ := h
  exact hmem

theorem State.brPerform_mem (s : State) (beat : Bool) (b : Request) : (s.brPerform beat b).el.mem = s.el.mem :=
  outsideBridge_mem (s.brPerform_outside beat b)

/-- DEC.MEM stores where its request is a strobed write and the controller is in CYCLE (R162, R166, R263). -/
theorem State.routeMem_mem (s : State) (d : Request) :
    (s.routeMem d).el.mem = s.el.mem.store (storeTarget s (.decMem d)) := by
  rw [State.routeMem_el, State.brPerform_mem]
  rcases s.mcPerform_cases (strobed d) d with ⟨hidle, _, h⟩ | ⟨hidle, _, h⟩ | ⟨_, hbeat, h⟩ | ⟨hcycle, hbeat, h⟩
  · rw [h, State.mcIdle_el]
    simp [storeTarget, hidle]
  · rw [h, State.mcLatch_el]
    simp [storeTarget, hidle]
  · have hno : ¬ (d.cyc = true ∧ d.stb = true) := by simpa [strobed] using hbeat
    rw [h, State.mcRelease_el]
    simp only [storeTarget, ← and_assoc, hno, false_and, if_false, Memory.store_none]
  · obtain ⟨hcyc, hstb⟩ : d.cyc = true ∧ d.stb = true := by simpa [strobed] using hbeat
    rw [h, State.mcBeat_mem]
    simp [storeTarget, hcyc, hstb, hcycle]

theorem State.routeCsr_mem (s : State) (d : Request) : (s.routeCsr d).el.mem = s.el.mem := by
  rw [State.routeCsr_el, State.brPerform_mem, State.mcPerform_no_beat_mem]

theorem State.routeMiss_mem (s : State) (d : Request) : (s.routeMiss d).el.mem = s.el.mem := by
  rw [State.routeMiss_el, State.brPerform_mem, State.mcPerform_no_beat_mem]

/-- The Decoder passes a store on for an address of the memory range only (R262 to R265). -/
theorem State.decPerform_mem (s : State) (d : Request) :
    (s.decPerform d).el.mem =
      if selMem s.cfg d.adr then s.el.mem.store (storeTarget s (.decMem d)) else s.el.mem := by
  rcases s.decPerform_cases d with ⟨hm, h⟩ | ⟨hm, _, h⟩ | ⟨hm, _, h⟩ <;> rw [h, hm]
  · exact s.routeMem_mem d
  · exact s.routeCsr_mem d
  · exact s.routeMiss_mem d

theorem State.arbitrate_mem (s : State) (m : Master) (cyc : Bool) : (s.arbitrate m cyc).el.mem = s.el.mem := by
  cases m <;> rw [State.arbitrate, State.arbPerform_el]

/-- A port's clock cycle leaves the memory its Decoder's operation leaves, if it is granted (R123, R124). -/
theorem State.portCycle_mem (s : State) (m : Master) (b : Request) :
    (s.portCycle m b).el.mem = if s.el.grant = m then (s.decPerform b).el.mem else s.el.mem := by
  rcases s.portCycle_cases m b with ⟨hg, h⟩ | ⟨hg, h⟩
  · rw [h, if_pos hg, State.arbitrate_mem, State.respond_el]
  · rw [h, if_neg hg, State.wait_el]

/-- A port that does not write stores nothing (R125 to R127). -/
theorem State.portCycle_mem_of_no_write (s : State) (m : Master) (b : Request) (h : b.we = false) :
    (s.portCycle m b).el.mem = s.el.mem := by
  simp [State.portCycle_mem, State.decPerform_mem, storeTarget, h]

/-- A port's write beat stores what `portStore` says, whatever its cycle type (R128 to R146). -/
theorem State.portCycle_mem_of_write (s : State) (m : Master) (cti : BitVec 3) (bte : BitVec 2) (adr : Adr)
    (sel : BitVec 4) (datW : Word) :
    (s.portCycle m (writeRequest cti bte adr sel datW)).el.mem = s.el.mem.store (portStore s m adr sel datW) := by
  rw [State.portCycle_mem, State.decPerform_mem]
  by_cases hg : s.el.grant = m <;> by_cases hm : selMem s.cfg adr = true <;>
    simp [writeRequest, storeTarget, portStore, hg, hm]

theorem State.readRxData_mem (s : State) : s.readRxData.el.mem = s.el.mem := by
  rw [State.readRxData_el]
  split <;> rfl

theorem State.writeTxData_mem (s : State) (data : Byte) : (s.writeTxData data).el.mem = s.el.mem := by
  rw [State.writeTxData_el]
  split <;> rfl

theorem State.push_mem (s : State) (f : FifoId) (wData : RxEntry) : (s.push f wData).el.mem = s.el.mem := by
  cases f <;> rfl

theorem State.pop_mem (s : State) (f : FifoId) : (s.pop f).el.mem = s.el.mem := by
  cases f <;> rfl

theorem State.reveal_mem (s : State) (f : FifoId) (old : Vis) : (s.reveal f old).el.mem = s.el.mem := by
  cases f <;> rfl

/-- Each operation leaves the memory with the one word write of its `storeTarget`, if it has one (R25, R84). -/
theorem exec_mem (i : Instr) (s : State) : ∃ t, exec i s = .next t ∧ t.el.mem = s.el.mem.store (storeTarget s i) := by
  cases i with
  | wbWrClassic m adr sel datW | wbWrConst m adr sel datW | wbWrIncrLinear m adr sel datW | wbWrIncrWrap4 m adr sel datW
  | wbWrIncrWrap8 m adr sel datW | wbWrIncrWrap16 m adr sel datW | wbWrRsvd3 m adr sel datW | wbWrRsvd45 m adr sel datW
  | wbWrRsvd6 m adr sel datW | wbWrEob m adr sel datW =>
    exact ⟨_, rfl, s.portCycle_mem_of_write m _ _ adr sel datW⟩
  | wbIdle m adr | wbWait m adr | wbRdClassic m adr sel | wbRdConst m adr sel | wbRdIncrLinear m adr sel
  | wbRdIncrWrap4 m adr sel | wbRdIncrWrap8 m adr sel | wbRdIncrWrap16 m adr sel | wbRdRsvd3 m adr sel
  | wbRdRsvd45 m adr sel | wbRdRsvd6 m adr sel | wbRdEob m adr sel =>
    exact ⟨_, rfl, s.portCycle_mem_of_no_write m _ rfl⟩
  | mcBeat we sel datW cti bte => exact ⟨_, rfl, s.mcBeat_mem we sel datW cti bte⟩
  | decMem d => exact ⟨_, rfl, s.routeMem_mem d⟩
  | decCsr d => exact ⟨_, rfl, s.routeCsr_mem d⟩
  | decMiss d => exact ⟨_, rfl, s.routeMiss_mem d⟩
  | brLane0 adr sel we datW => exact ⟨_, rfl, outsideBridge_mem (s.brLane0_outside adr sel we datW)⟩
  | brLane1 adr sel we datW => exact ⟨_, rfl, outsideBridge_mem (s.brLane1_outside adr sel we datW)⟩
  | brLane2 adr sel we datW => exact ⟨_, rfl, outsideBridge_mem (s.brLane2_outside adr sel we datW)⟩
  | brLane3 adr sel we datW => exact ⟨_, rfl, outsideBridge_mem (s.brLane3_outside adr sel we datW)⟩
  | csrRd addr => exact ⟨_, rfl, outsideBridge_mem (s.csrRead_outside addr)⟩
  | csrWr addr data => exact ⟨_, rfl, outsideBridge_mem (s.csrWrite_outside addr data)⟩
  | rxDataRd => exact ⟨_, rfl, s.readRxData_mem⟩
  | txDataWr data => exact ⟨_, rfl, s.writeTxData_mem data⟩
  | fifoNop f => exact ⟨_, rfl, s.reveal_mem f _⟩
  | fifoPush f wData => exact ⟨_, rfl, (State.reveal_mem _ f _).trans (s.push_mem f wData)⟩
  | fifoPop f => exact ⟨_, rfl, (State.reveal_mem _ f _).trans (s.pop_mem f)⟩
  | fifoPushPop f wData =>
    exact ⟨_, rfl, (State.reveal_mem _ f _).trans ((State.push_mem _ f wData).trans (s.pop_mem f))⟩
  -- Every other operation sets elements of S other than `mem`, or drives signals.
  | mcIdle | mcLatch adr | mcRelease | advLinear | advWrap4 | advWrap8 | advWrap16 | brIdle | brCollect | brAck | csrNop
  | ctrlRd j | ctrlWr j data | rxInfoRd | txInfoRd | regRdNone addr | regWrNone addr data
  | rxIdle | rxAccept data ovf ferr perr | rxRefuse | txIdle rRdy | txPull | txEmpty
  | arbHold0 | arbHold1 | arbSwitch01 | arbSwitch10 | arbPark0 | arbPark1 => exact ⟨_, rfl, rfl⟩

/-- Settles O57: an operation leaves its `storeTarget`'s word write, and a word write reads as `mergedByte` says. -/
theorem onlyWriteBeatsStoreToMemory : Obligations.OnlyWriteBeatsStoreToMemory := by
  intro i s t hwf hexec a
  obtain ⟨u, hu, hmem⟩ := exec_mem i s
  obtain rfl : t = u := by injection hexec.symm.trans hu
  rw [hmem]
  rcases storeTarget s i with _ | ⟨idx, sel, v⟩
  · rfl
  · exact Memory.read_writeWord _ idx sel v hwf a

end Sys2Proof.Machine

/-! The state from one clock cycle to the next (10_state.md): the record a step leaves, element by element, and what follows
from it: the invariants (R44), the frames (R30, R67, R166), the reset (R43); and the register keys (R35, R103). -/

namespace Sys2Proof.Machine

/-! What a legal configuration gives: sizes as powers of two, exclusive selects, registers apart. -/

theorem Config.csrSize_eq_two_pow {c : Config} (h : c.legal = true) : c.csrSize = 2 ^ c.csrAW := by
  obtain ⟨_, _, _, csrPow, _⟩ := (Config.legal_iff_checks c).mp h
  exact (beq_iff_eq.mp csrPow).symm

theorem Config.memSize_eq_two_pow {c : Config} (h : c.legal = true) : c.memSize = 2 ^ (c.memAW + 2) := by
  obtain ⟨_, _, ⟨n, hn⟩, _, _, _, _, _, _, _, _, _, _, mem4, _⟩ := (Config.legal_iff c).mp h
  obtain ⟨k, rfl⟩ : ∃ k, n = k + 2 :=
    ⟨n - 2, (Nat.sub_add_cancel ((Nat.pow_le_pow_iff_right (a := 2) (by decide)).mp (hn ▸ mem4))).symm⟩
  have hwords : c.memWords = 2 ^ k := by rw [Config.memWords, hn, Nat.pow_add]; omega
  rw [hn, Config.memAW, hwords, Nat.log2_two_pow]

theorem Config.memWords_eq_two_pow {c : Config} (h : c.legal = true) : c.memWords = 2 ^ c.memAW := by
  rw [Config.memWords, Config.memSize_eq_two_pow h, Nat.pow_add]
  omega

theorem Config.two_le_csrAW {c : Config} (h : c.legal = true) : 2 ≤ c.csrAW := by
  obtain ⟨_, _, _, _, _, csr32, _⟩ := (Config.legal_iff_checks c).mp h
  rw [Config.csrSize_eq_two_pow h] at csr32
  exact (Nat.pow_le_pow_iff_right (a := 2) (by decide)).mp (Nat.le_trans (by decide) csr32)

/-- A select of R262 compares upper bits: it holds of the word addresses in the aligned range (R70). -/
theorem shiftRight_eq_iff_in_range (a base k : Nat) (aligned : base % 2 ^ (k + 2) = 0) :
    a >>> k = base >>> (k + 2) ↔ base ≤ 4 * a ∧ 4 * a < base + 2 ^ (k + 2) := by
  obtain ⟨q, rfl⟩ := Nat.dvd_of_mod_eq_zero aligned
  have size : 2 ^ (k + 2) = 4 * 2 ^ k := by rw [Nat.pow_add]; omega
  rw [Nat.shiftRight_eq_div_pow, Nat.shiftRight_eq_div_pow, Nat.mul_div_cancel_left q (by positivity),
    Nat.div_eq_iff (by positivity), size]
  have hpos : 0 < 2 ^ k := by positivity
  rw [Nat.mul_assoc, Nat.mul_comm q]
  omega

theorem selMem_iff {c : Config} (h : c.legal = true) (adr : Adr) :
    selMem c adr = true ↔ c.memBase ≤ 4 * adr.toNat ∧ 4 * adr.toNat < c.memBase + c.memSize := by
  obtain ⟨_, _, _, _, _, _, aligned, _⟩ := (Config.legal_iff_checks c).mp h
  have size := Config.memSize_eq_two_pow h
  rw [selMem, beq_iff_eq, shiftRight_eq_iff_in_range _ _ _ (size ▸ aligned), ← size]

theorem selCsr_iff {c : Config} (h : c.legal = true) (adr : Adr) :
    selCsr c adr = true ↔ c.csrBase ≤ 4 * adr.toNat ∧ 4 * adr.toNat < c.csrBase + c.csrSize := by
  obtain ⟨_, _, _, _, _, _, _, aligned, _⟩ := (Config.legal_iff_checks c).mp h
  have size := Config.csrSize_eq_two_pow h
  obtain ⟨k, hk⟩ : ∃ k, c.csrAW = k + 2 := ⟨_, (Nat.sub_add_cancel (Config.two_le_csrAW h)).symm⟩
  rw [size, hk] at aligned
  rw [selCsr, beq_iff_eq, size, hk, Nat.add_sub_cancel, shiftRight_eq_iff_in_range _ _ _ aligned]

/-- No address selects both slaves (R72). -/
theorem selCsr_of_selMem {c : Config} (h : c.legal = true) {adr : Adr} (hm : selMem c adr = true) :
    selCsr c adr = false := by
  obtain ⟨_, _, _, _, _, _, apart, _⟩ := (Config.legal_iff c).mp h
  rw [Bool.eq_false_iff]
  intro hc
  exact apart (4 * adr.toNat) ⟨(selMem_iff h adr).mp hm, (selCsr_iff h adr).mp hc⟩

/-- A narrow address is a byte of CTRL iff it lies in CTRL's range (R103). -/
theorem ctrlByteAt_eq_none_iff {c : Config} {addr : NarrowAdr} :
    ctrlByteAt c addr = none ↔ ¬ (c.offCtrl ≤ addr.toNat ∧ addr.toNat < c.offCtrl + c.ctrlBytes) := by
  simp [ctrlByteAt]

/-- The registers of a legal configuration stand apart: what `Config.legal_iff` says pairwise, said of the offsets the
decoder compares (R7, R35). -/
structure Config.RegistersApart (c : Config) : Prop where
  rxInfo : ¬ (c.offCtrl ≤ c.offRxInfo ∧ c.offRxInfo < c.offCtrl + c.ctrlBytes)
  rxData : ¬ (c.offCtrl ≤ c.offRxData ∧ c.offRxData < c.offCtrl + c.ctrlBytes)
  txInfo : ¬ (c.offCtrl ≤ c.offTxInfo ∧ c.offTxInfo < c.offCtrl + c.ctrlBytes)
  txData : ¬ (c.offCtrl ≤ c.offTxData ∧ c.offTxData < c.offCtrl + c.ctrlBytes)
  rxData_ne_rxInfo : c.offRxData ≠ c.offRxInfo
  txInfo_ne_rxInfo : c.offTxInfo ≠ c.offRxInfo
  txInfo_ne_rxData : c.offTxInfo ≠ c.offRxData

theorem Config.registersApart {c : Config} (h : c.legal = true) : Config.RegistersApart c := by
  obtain ⟨_, _, _, _, _, _, _, _, apart, _⟩ := (Config.legal_iff c).mp h
  simp only [Config.registers, List.pairwise_cons, List.mem_cons, List.not_mem_nil, or_false, forall_eq_or_imp,
    forall_eq, noCommonAddress] at apart
  obtain ⟨⟨ctrlRxInfo, ctrlRxData, ctrlTxInfo, ctrlTxData⟩, ⟨infoData, infoTxInfo, _⟩, ⟨dataTxInfo, _⟩, _⟩ := apart
  have rxInfo := ctrlRxInfo c.offRxInfo
  have rxData := ctrlRxData c.offRxData
  have txInfo := ctrlTxInfo c.offTxInfo
  have txData := ctrlTxData c.offTxData
  have infoData := infoData c.offRxInfo
  have infoTxInfo := infoTxInfo c.offRxInfo
  have dataTxInfo := dataTxInfo c.offRxData
  constructor <;> omega

/-! The operations of a clock cycle as the model's shared functions: each key of R103 selects what the component performs. -/

/-- Requests between which no slave can tell: `we`, `cti` and `bte` count in a strobed beat only, the last two through VK
only (R90, R165). -/
structure SameBeat (b d : Request) : Prop where
  cyc : b.cyc = d.cyc
  strobed : strobed b = strobed d
  adr : b.adr = d.adr
  sel : b.sel = d.sel
  datW : b.datW = d.datW
  we : Machine.strobed d = true → b.we = d.we
  vk : Machine.strobed d = true → advKey b.cti b.bte = advKey d.cti d.bte

theorem State.mcPerform_sameBeat (s : State) (beat : Bool) {b d : Request} (h : SameBeat b d)
    (hbeat : beat = true → strobed d = true) : s.mcPerform beat b = s.mcPerform beat d := by
  cases beat with
  | false => simp only [State.mcPerform]; cases s.el.mcState <;> rfl
  | true =>
    simp only [State.mcPerform, State.mcBeat, State.advance, h.adr, h.sel, h.datW, h.we (hbeat rfl), h.vk (hbeat rfl)]

theorem State.brPerform_sameBeat (s : State) (beat : Bool) {b d : Request} (h : SameBeat b d)
    (hbeat : beat = true → strobed d = true) : s.brPerform beat b = s.brPerform beat d := by
  cases beat with
  | false => simp [State.brPerform, h.adr, h.datW]
  | true => simp only [State.brPerform, h.adr, h.sel, h.datW, h.we (hbeat rfl)]

theorem State.decPerform_sameBeat (s : State) {b d : Request} (h : SameBeat b d) : s.decPerform b = s.decPerform d := by
  have idle : false = true → strobed d = true := fun h => nomatch h
  simp only [State.decPerform, State.routeMem, State.routeCsr, State.routeMiss, h.adr, h.strobed,
    State.mcPerform_sameBeat _ _ h id, State.mcPerform_sameBeat _ _ h idle, State.brPerform_sameBeat _ _ h id,
    State.brPerform_sameBeat _ _ h idle]

theorem State.portCycle_sameBeat (s : State) (m : Master) {b d : Request} (h : SameBeat b d) :
    s.portCycle m b = s.portCycle m d := by
  simp only [State.portCycle, s.decPerform_sameBeat h, h.cyc]

/-- Each of the ten strobed reads performs a read beat of its row's cycle type (R127 to R145). -/
theorem exec_readBeats (s : State) (m : Master) (adr : Adr) (sel : BitVec 4) :
    ∀ p ∈ readBeats m adr sel, exec p.1 s = .next (s.portCycle m (readRequest p.2.1 p.2.2 adr sel (s.datLines m))) := by
  simp only [readBeats, List.forall_mem_cons]
  exact ⟨rfl, rfl, rfl, rfl, rfl, rfl, rfl, rfl, rfl, rfl, nofun⟩

/-- Each of the ten strobed writes performs a write beat of its row's cycle type (R128 to R146). -/
theorem exec_writeBeats (s : State) (m : Master) (adr : Adr) (sel : BitVec 4) (datW : Word) :
    ∀ p ∈ writeBeats m adr sel datW, exec p.1 s = .next (s.portCycle m (writeRequest p.2.1 p.2.2 adr sel datW)) := by
  simp only [writeBeats, List.forall_mem_cons]
  exact ⟨rfl, rfl, rfl, rfl, rfl, rfl, rfl, rfl, rfl, rfl, nofun⟩

/-- The last value of a two-bit key. -/
theorem eq_three_of_ne {bte : BitVec 2} (h0 : bte ≠ 0b00#2) (h1 : bte ≠ 0b01#2) (h2 : bte ≠ 0b10#2) : bte = 0b11#2 := by
  revert bte
  decide

/-- A strobed read's control word selects one of the ten reads, with the VK it presents (R97, R165). -/
theorem decodeStrobe_read (m : Master) (cti : BitVec 3) (bte : BitVec 2) (adr : Adr) (sel : BitVec 4) (datW : Word) :
    ∃ p ∈ readBeats m adr sel, decodeStrobe m false cti bte adr sel datW = p.1 ∧ advKey p.2.1 p.2.2 = advKey cti bte := by
  rw [decodeStrobe, if_neg Bool.false_ne_true]
  split_ifs
  · exact ⟨(_, 0b000#3, 0b00#2), by simp [readBeats], rfl, by simp [advKey, *]⟩
  · exact ⟨(_, 0b001#3, 0b00#2), by simp [readBeats], rfl, by simp [advKey, *]⟩
  · exact ⟨(_, 0b010#3, 0b00#2), by simp [readBeats], rfl, by simp [advKey, *]⟩
  · exact ⟨(_, 0b010#3, 0b01#2), by simp [readBeats], rfl, by simp [advKey, *]⟩
  · exact ⟨(_, 0b010#3, 0b10#2), by simp [readBeats], rfl, by simp [advKey, *]⟩
  · exact ⟨(_, 0b010#3, 0b11#2), by simp [readBeats], rfl, by simp [advKey, eq_three_of_ne, *]⟩
  · exact ⟨(_, 0b011#3, 0b00#2), by simp [readBeats], rfl, by simp [advKey, *]⟩
  · exact ⟨(_, 0b110#3, 0b00#2), by simp [readBeats], rfl, by simp [advKey, *]⟩
  · exact ⟨(_, 0b111#3, 0b00#2), by simp [readBeats], rfl, by simp [advKey, *]⟩
  · exact ⟨(_, 0b100#3, 0b00#2), by simp [readBeats], rfl, by simp [advKey, *]⟩

/-- A strobed write's control word selects one of the ten writes, with the VK it presents (R97, R165). -/
theorem decodeStrobe_write (m : Master) (cti : BitVec 3) (bte : BitVec 2) (adr : Adr) (sel : BitVec 4) (datW : Word) :
    ∃ p ∈ writeBeats m adr sel datW,
      decodeStrobe m true cti bte adr sel datW = p.1 ∧ advKey p.2.1 p.2.2 = advKey cti bte := by
  rw [decodeStrobe, if_pos rfl]
  split_ifs
  · exact ⟨(_, 0b000#3, 0b00#2), by simp [writeBeats], rfl, by simp [advKey, *]⟩
  · exact ⟨(_, 0b001#3, 0b00#2), by simp [writeBeats], rfl, by simp [advKey, *]⟩
  · exact ⟨(_, 0b010#3, 0b00#2), by simp [writeBeats], rfl, by simp [advKey, *]⟩
  · exact ⟨(_, 0b010#3, 0b01#2), by simp [writeBeats], rfl, by simp [advKey, *]⟩
  · exact ⟨(_, 0b010#3, 0b10#2), by simp [writeBeats], rfl, by simp [advKey, *]⟩
  · exact ⟨(_, 0b010#3, 0b11#2), by simp [writeBeats], rfl, by simp [advKey, eq_three_of_ne, *]⟩
  · exact ⟨(_, 0b011#3, 0b00#2), by simp [writeBeats], rfl, by simp [advKey, *]⟩
  · exact ⟨(_, 0b110#3, 0b00#2), by simp [writeBeats], rfl, by simp [advKey, *]⟩
  · exact ⟨(_, 0b111#3, 0b00#2), by simp [writeBeats], rfl, by simp [advKey, *]⟩
  · exact ⟨(_, 0b100#3, 0b00#2), by simp [writeBeats], rfl, by simp [advKey, *]⟩

/-- A port's WB operation performs the request its bracket presents (R97): what the operation leaves out of the control word
has no effect. -/
theorem exec_decodeWB (s : State) (m : Master) :
    exec (decodeWB m (s.inp.bracket m)) s = .next (s.portCycle m (portRequest s.inp m)) := by
  show exec (decodeWB m (s.inp.bracket m)) s = .next (s.portCycle m (s.inp.bracket m).request)
  unfold decodeWB
  cases hcyc : (s.inp.bracket m).request.cyc with
  | false =>
    have same : SameBeat (idleRequest (s.inp.bracket m).adr (s.selLines m) (s.datLines m)) (s.inp.bracket m).request :=
      { cyc := hcyc.symm, strobed := by simp [strobed, idleRequest, hcyc], adr := rfl, sel := rfl, datW := rfl
        we := by simp [strobed, hcyc], vk := by simp [strobed, hcyc] }
    rw [← s.portCycle_sameBeat m same]
    rfl
  | true =>
    cases hstb : (s.inp.bracket m).request.stb with
    | false =>
      have same : SameBeat (waitRequest (s.inp.bracket m).adr (s.selLines m) (s.datLines m)) (s.inp.bracket m).request :=
        { cyc := hcyc.symm, strobed := by simp [strobed, waitRequest, hstb], adr := rfl, sel := rfl, datW := rfl
          we := by simp [strobed, hstb], vk := by simp [strobed, hstb] }
      rw [← s.portCycle_sameBeat m same]
      rfl
    | true =>
      cases hwe : (s.inp.bracket m).request.we with
      | false =>
        obtain ⟨p, hp, hop, hvk⟩ := decodeStrobe_read m (s.inp.bracket m).request.cti (s.inp.bracket m).request.bte
          (s.inp.bracket m).adr (s.inp.bracket m).sel (s.inp.bracket m).datW
        have same : SameBeat (readRequest p.2.1 p.2.2 (s.inp.bracket m).adr (s.inp.bracket m).sel (s.datLines m))
            (s.inp.bracket m).request :=
          { cyc := hcyc.symm, strobed := by simp [strobed, readRequest, hcyc, hstb], adr := rfl, sel := rfl, datW := rfl
            we := fun _ => hwe.symm, vk := fun _ => hvk }
        rw [← s.portCycle_sameBeat m same, ← exec_readBeats s m _ _ p hp, ← hop]
        rfl
      | true =>
        obtain ⟨p, hp, hop, hvk⟩ := decodeStrobe_write m (s.inp.bracket m).request.cti (s.inp.bracket m).request.bte
          (s.inp.bracket m).adr (s.inp.bracket m).sel (s.inp.bracket m).datW
        have same : SameBeat
            (writeRequest p.2.1 p.2.2 (s.inp.bracket m).adr (s.inp.bracket m).sel (s.inp.bracket m).datW)
            (s.inp.bracket m).request :=
          { cyc := hcyc.symm, strobed := by simp [strobed, writeRequest, hcyc, hstb], adr := rfl, sel := rfl, datW := rfl
            we := fun _ => hwe.symm, vk := fun _ => hvk }
        rw [← s.portCycle_sameBeat m same, ← exec_writeBeats s m _ _ _ p hp, ← hop]
        rfl

/-! The register an access selects, an equation per case (R103, R201, R202). -/

theorem State.regRead_ctrl {s : State} {addr : NarrowAdr} {j : BitVec 2} (h : ctrlByteAt s.cfg addr = some j) :
    s.regRead addr = s.readCtrl j := by
  simp only [State.regRead, h]

theorem State.regRead_noCtrl {s : State} {addr : NarrowAdr} (h : ctrlByteAt s.cfg addr = none) :
    s.regRead addr =
      if addr.toNat = s.cfg.offRxInfo then s.readRxInfo
      else if addr.toNat = s.cfg.offRxData then s.readRxData
      else if addr.toNat = s.cfg.offTxInfo then s.readTxInfo
      else s.readNone := by
  simp only [State.regRead, h]

theorem State.regWrite_ctrl {s : State} {addr : NarrowAdr} {j : BitVec 2} (data : Byte)
    (h : ctrlByteAt s.cfg addr = some j) : s.regWrite addr data = s.writeCtrl j data := by
  simp only [State.regWrite, h]

theorem State.regWrite_noCtrl {s : State} {addr : NarrowAdr} (data : Byte) (h : ctrlByteAt s.cfg addr = none) :
    s.regWrite addr data = if addr.toNat = s.cfg.offTxData then s.writeTxData data else s := by
  simp only [State.regWrite, h]

/-! The Bridge, the narrow bus and the Register File neither read nor write what the other components own (R84): the
elements of the Arbiter and of the Memory Controller, the outputs, the controller's port. -/

/-- `s` with these put in from elsewhere. -/
def State.besideBridge (s : State) (e : Elements) (o : Outputs) (p : SlavePort) : State :=
  { s with
    el := { s.el with grant := e.grant, mcState := e.mcState, mcAdr := e.mcAdr, mem := e.mem }
    out := o
    wires := { s.wires with p := p } }

section
variable (s : State) (e : Elements) (o : Outputs) (p : SlavePort)

@[simp] theorem State.besideBridge_cfg : (s.besideBridge e o p).cfg = s.cfg := rfl
@[simp] theorem State.besideBridge_brAck : (s.besideBridge e o p).el.brAck = s.el.brAck := rfl
@[simp] theorem State.besideBridge_brCnt : (s.besideBridge e o p).el.brCnt = s.el.brCnt := rfl
@[simp] theorem State.besideBridge_rxReadReady : (s.besideBridge e o p).rxReadReady = s.rxReadReady := rfl
@[simp] theorem State.besideBridge_txWriteReady : (s.besideBridge e o p).txWriteReady = s.txWriteReady := rfl

theorem State.readRxData_besideBridge :
    (s.besideBridge e o p).readRxData = s.readRxData.besideBridge e o p := by
  rw [State.readRxData, State.readRxData, State.besideBridge_rxReadReady]
  split_ifs <;> rfl

theorem State.writeTxData_besideBridge (data : Byte) :
    (s.besideBridge e o p).writeTxData data = (s.writeTxData data).besideBridge e o p := by
  rw [State.writeTxData, State.writeTxData, State.besideBridge_txWriteReady]
  split_ifs <;> rfl

theorem State.regRead_besideBridge (addr : NarrowAdr) :
    (s.besideBridge e o p).regRead addr = (s.regRead addr).besideBridge e o p := by
  cases h : ctrlByteAt s.cfg addr with
  | some j =>
    rw [State.regRead_ctrl (s := s.besideBridge e o p) h, State.regRead_ctrl h]
    rfl
  | none =>
    rw [State.regRead_noCtrl (s := s.besideBridge e o p) h, State.regRead_noCtrl h]
    rw [State.besideBridge_cfg]
    split_ifs
    · rfl
    · exact s.readRxData_besideBridge e o p
    · rfl
    · rfl

theorem State.regWrite_besideBridge (addr : NarrowAdr) (data : Byte) :
    (s.besideBridge e o p).regWrite addr data = (s.regWrite addr data).besideBridge e o p := by
  cases h : ctrlByteAt s.cfg addr with
  | some j =>
    rw [State.regWrite_ctrl (s := s.besideBridge e o p) data h, State.regWrite_ctrl data h]
    rfl
  | none =>
    rw [State.regWrite_noCtrl (s := s.besideBridge e o p) data h, State.regWrite_noCtrl data h]
    rw [State.besideBridge_cfg]
    split_ifs
    · exact s.writeTxData_besideBridge e o p data
    · rfl

theorem State.csrRead_besideBridge (addr : NarrowAdr) :
    (s.besideBridge e o p).csrRead addr = (s.csrRead addr).besideBridge e o p := by
  have read := State.regRead_besideBridge (s.driveNarrow { s.wires.narrow with addr := addr, rStb := true, wStb := false })
    e o p addr
  exact congrArg (fun t : State => t.setCsrRdata t.wires.regV) read

theorem State.csrWrite_besideBridge (addr : NarrowAdr) (data : Byte) :
    (s.besideBridge e o p).csrWrite addr data = (s.csrWrite addr data).besideBridge e o p := by
  have write := State.regWrite_besideBridge (s.driveNarrow { addr := addr, wStb := true, wData := data }) e o p addr data
  exact congrArg (fun t : State => t.setCsrRdata 0) write

theorem State.issueLane_besideBridge (k : Nat) (adr : Adr) (sel : BitVec 4) (we : Bool) (datW : Word) :
    (s.besideBridge e o p).issueLane k adr sel we datW = (s.issueLane k adr sel we datW).besideBridge e o p := by
  rw [State.issueLane, State.issueLane, State.besideBridge_cfg]
  split_ifs
  · exact State.csrWrite_besideBridge (s.driveLane k adr datW) e o p _ _
  · exact State.csrRead_besideBridge (s.driveLane k adr datW) e o p _
  · rfl

/-- The Bridge's operation commutes with what the other components do (R84). -/
theorem State.brPerform_besideBridge (beat : Bool) (b : Request) :
    (s.besideBridge e o p).brPerform beat b = (s.brPerform beat b).besideBridge e o p := by
  have lane (w : State) (k : Nat) (n : BitVec 3) :
      ((w.besideBridge e o p).issueLane k b.adr b.sel b.we b.datW).setBrCnt n =
        ((w.issueLane k b.adr b.sel b.we b.datW).setBrCnt n).besideBridge e o p :=
    congrArg (fun t : State => t.setBrCnt n) (w.issueLane_besideBridge e o p k b.adr b.sel b.we b.datW)
  rw [State.brPerform, State.brPerform, State.besideBridge_brAck, State.besideBridge_brCnt]
  split_ifs
  · rfl
  · rfl
  · exact lane (s.driveBridgePort false) 0 1
  · exact lane ((s.driveBridgePort false).collectLane 0) 1 2
  · exact lane ((s.driveBridgePort false).collectLane 1) 2 3
  · exact lane ((s.driveBridgePort false).collectLane 2) 3 4
  · rfl

end

/-! The Memory Controller leaves the rest to the Bridge: its operation only puts its own elements and its port in. -/

theorem State.advance_signals (s : State) (cti : BitVec 3) (bte : BitVec 2) :
    (s.advance cti bte).out = s.out ∧ (s.advance cti bte).wires = s.wires := by
  rcases s.advance_cases cti bte with ⟨_, h⟩ | ⟨_, h⟩ | ⟨_, h⟩ | ⟨_, h⟩ <;> rw [h] <;> exact ⟨rfl, rfl⟩

theorem State.commitWrite_out (s : State) (we : Bool) (sel : BitVec 4) (datW : Word) :
    (s.commitWrite we sel datW).out = s.out := by
  unfold State.commitWrite
  split <;> rfl

/-- The controller's port shows the addressed word in every clock cycle, with the acknowledge in the beats in CYCLE; no
other signal is driven (R162, R172). -/
theorem State.mcPerform_signals (s : State) (beat : Bool) (b : Request) :
    (s.mcPerform beat b).out = s.out ∧
      (s.mcPerform beat b).wires =
        { s.wires with
          p := { ack := beat && decide (s.el.mcState = .cycle), datR := s.el.mem.readWord s.el.mcAdr.toNat } } := by
  rcases s.mcPerform_cases beat b with ⟨hs, hb, h⟩ | ⟨hs, hb, h⟩ | ⟨hs, hb, h⟩ | ⟨hs, hb, h⟩ <;> rw [h, hs, hb]
  · exact ⟨rfl, rfl⟩
  · exact ⟨rfl, rfl⟩
  · exact ⟨rfl, rfl⟩
  · obtain ⟨out, wires⟩ := ((s.driveMemoryPort true).commitWrite b.we b.sel b.datW).advance_signals b.cti b.bte
    exact ⟨out.trans (State.commitWrite_out _ _ _ _), wires.trans (State.commitWrite_wires _ _ _ _)⟩

/-- Two states with the same fields are one. -/
theorem State.eq_of_fields {s t : State} (cfg : s.cfg = t.cfg) (el : s.el = t.el) (script : s.script = t.script)
    (inp : s.inp = t.inp) (out : s.out = t.out) (wires : s.wires = t.wires) (tick : s.tick = t.tick) : s = t := by
  cases s
  cases t
  simp_all

theorem State.mcPerform_eq_besideBridge (s : State) (beat : Bool) (b : Request) :
    s.mcPerform beat b =
      s.besideBridge (s.mcPerform beat b).el s.out
        { ack := beat && decide (s.el.mcState = .cycle), datR := s.el.mem.readWord s.el.mcAdr.toNat } := by
  obtain ⟨cfg, script, inp, tick⟩ := s.mcPerform_context beat b
  obtain ⟨out, wires⟩ := s.mcPerform_signals beat b
  have el := s.mcPerform_el beat b
  have grant : (s.mcPerform beat b).el.grant = s.el.grant := by rw [el]
  refine State.eq_of_fields cfg ?_ script inp out wires tick
  simpa only [State.besideBridge, grant] using el

/-! What the narrow bus of a clock cycle does to the Register File's `divisor` and to the FIFOs (R67, R245). -/

/-- The narrow bus pops the receive FIFO (R232, R245). -/
def State.popsRx (s : State) (n : NarrowBus) : Bool :=
  n.rStb && decide (n.addr.toNat = s.cfg.offRxData) && s.rxReadReady

/-- The narrow bus pushes into the transmit FIFO (R233, R245). -/
def State.pushesTx (s : State) (n : NarrowBus) : Bool :=
  n.wStb && decide (n.addr.toNat = s.cfg.offTxData) && s.txWriteReady

/-- The narrow bus writes a byte of CTRL (R208). -/
def State.writesCtrl (s : State) (n : NarrowBus) : Prop :=
  n.wStb = true ∧ s.cfg.offCtrl ≤ n.addr.toNat ∧ n.addr.toNat < s.cfg.offCtrl + s.cfg.ctrlBytes

/-- The record `e` holds what the narrow bus `n` leaves of the elements behind it in state `s`. -/
structure NarrowEffect (s : State) (n : NarrowBus) (e : Elements) : Prop where
  rxFifo : e.rxFifo = if s.popsRx n then s.el.rxFifo.tail else s.el.rxFifo
  rxVis : e.rxVis = s.el.rxVis.bump s.cfg.fifoMode false (s.popsRx n)
  txFifo : e.txFifo = s.el.txFifo ++ if s.pushesTx n then [n.wData] else []
  txVis : e.txVis = s.el.txVis.bump s.cfg.fifoMode (s.pushesTx n) false
  divisor : e.divisor = s.el.divisor ∨
    s.writesCtrl n ∧ ∃ x : Nat, e.divisor = BitVec.ofNat 32 (x % 2 ^ s.cfg.divisorWidth)

@[simp] theorem Vis.bump_none (v : Vis) (mode : FifoMode) : v.bump mode false false = v := by
  cases mode <;> rfl

/-- In a legal configuration a register read of OFF_RX_DATA pops the receive FIFO where it is ready, and no other register
read changes anything (R67, R232). -/
theorem State.regRead_el_of_legal {s : State} (hl : s.cfg.legal = true) (addr : NarrowAdr) :
    (s.regRead addr).el = if decide (addr.toNat = s.cfg.offRxData) && s.rxReadReady then s.rxPop.el else s.el := by
  have apart := Config.registersApart hl
  by_cases hd : addr.toNat = s.cfg.offRxData
  · have hnone : ctrlByteAt s.cfg addr = none := by
      rw [ctrlByteAt_eq_none_iff, hd]
      exact apart.rxData
    rw [State.regRead_noCtrl hnone, if_neg (hd ▸ apart.rxData_ne_rxInfo), if_pos hd, State.readRxData_el, State.rxPop_el]
    simp [hd]
  · rw [s.regRead_pure addr (.inl hd)]
    simp [hd]

/-- Without a strobe the record keeps these elements (R203). -/
theorem NarrowEffect.of_no_strobe {s : State} {n : NarrowBus} {e : Elements} (hr : n.rStb = false) (hw : n.wStb = false)
    (rxFifo : e.rxFifo = s.el.rxFifo) (rxVis : e.rxVis = s.el.rxVis) (txFifo : e.txFifo = s.el.txFifo)
    (txVis : e.txVis = s.el.txVis) (divisor : e.divisor = s.el.divisor) : NarrowEffect s n e := by
  have pop : s.popsRx n = false := by simp [State.popsRx, hr]
  have push : s.pushesTx n = false := by simp [State.pushesTx, hw]
  constructor <;> simp [pop, push, rxFifo, rxVis, txFifo, txVis, divisor]

theorem State.csrRead_effect {s : State} (hl : s.cfg.legal = true) {n : NarrowBus} (hr : n.rStb = true)
    (hw : n.wStb = false) : NarrowEffect s n (s.csrRead n.addr).el := by
  have push : s.pushesTx n = false := by simp [State.pushesTx, hw]
  have pop : s.popsRx n = (decide (n.addr.toNat = s.cfg.offRxData) && s.rxReadReady) := by simp [State.popsRx, hr]
  rw [State.csrRead_el, State.regRead_el_of_legal hl, ← pop]
  cases hp : s.popsRx n <;> constructor <;> simp [push, hp, State.rxPop_el]

theorem State.csrWrite_effect {s : State} (hl : s.cfg.legal = true) {n : NarrowBus} (hr : n.rStb = false)
    (hw : n.wStb = true) : NarrowEffect s n (s.csrWrite n.addr n.wData).el := by
  have pop : s.popsRx n = false := by simp [State.popsRx, hr]
  have push : s.pushesTx n = (decide (n.addr.toNat = s.cfg.offTxData) && s.txWriteReady) := by simp [State.pushesTx, hw]
  rw [State.csrWrite_el]
  cases hc : ctrlByteAt s.cfg n.addr with
  | some j =>
    have hin : s.cfg.offCtrl ≤ n.addr.toNat ∧ n.addr.toNat < s.cfg.offCtrl + s.cfg.ctrlBytes := by
      by_contra hout
      simp [ctrlByteAt_eq_none_iff.mpr hout] at hc
    have hne : n.addr.toNat ≠ s.cfg.offTxData := fun h => (Config.registersApart hl).txData (h ▸ hin)
    rw [State.regWrite_ctrl _ hc, State.writeCtrl_el]
    exact
      { rxFifo := by simp [pop], rxVis := by simp [pop], txFifo := by simp [push, hne], txVis := by simp [push, hne]
        divisor := .inr ⟨⟨hw, hin⟩, _, rfl⟩ }
  | none =>
    rw [State.regWrite_noCtrl _ hc]
    by_cases hd : n.addr.toNat = s.cfg.offTxData
    · rw [if_pos hd, State.writeTxData_el]
      cases ht : s.txWriteReady <;> constructor <;> simp [pop, push, hd, ht]
    · rw [if_neg hd]
      constructor <;> simp [pop, push, hd]

/-- A lane's clock cycle does what its narrow beat does (R192, R204). -/
theorem State.issueLane_effect {s : State} (hl : s.cfg.legal = true) (k : Nat) (b : Request) :
    NarrowEffect s (narrowBeat s.cfg true k b) (s.issueLane k b.adr b.sel b.we b.datW).el := by
  rcases s.issueLane_cases k b.adr b.sel b.we b.datW with ⟨hs, hw, h⟩ | ⟨hs, hw, h⟩ | ⟨hs, h⟩ <;> rw [h]
  · obtain ⟨rxFifo, rxVis, txFifo, txVis, divisor⟩ := State.csrWrite_effect (s := s.driveLane k b.adr b.datW)
      (n := narrowBeat s.cfg true k b) hl (by simp [narrowBeat, hw]) (by simp [narrowBeat, hw, hs])
    exact ⟨rxFifo, rxVis, txFifo, txVis, divisor⟩
  · obtain ⟨rxFifo, rxVis, txFifo, txVis, divisor⟩ := State.csrRead_effect (s := s.driveLane k b.adr b.datW)
      (n := narrowBeat s.cfg true k b) hl (by simp [narrowBeat, hw, hs]) (by simp [narrowBeat, hw])
    exact ⟨rxFifo, rxVis, txFifo, txVis, divisor⟩
  · exact .of_no_strobe (by simp [narrowBeat, hs]) (by simp [narrowBeat, hs]) rfl rfl rfl rfl rfl

/-- The Bridge's clock cycle does behind the narrow bus what its narrow bus asks for (R192, R204). -/
theorem State.brPerform_effect {s : State} (hl : s.cfg.legal = true) (beat : Bool) (b : Request) :
    NarrowEffect s (s.brPerform beat b).wires.narrow (s.brPerform beat b).el := by
  have collected (j k : Nat) (v : BitVec 3) : NarrowEffect s (narrowBeat s.cfg true k b)
      ((((s.driveBridgePort false).collectLane j).issueLane k b.adr b.sel b.we b.datW).setBrCnt v).el := by
    obtain ⟨rxFifo, rxVis, txFifo, txVis, divisor⟩ :=
      State.issueLane_effect (s := (s.driveBridgePort false).collectLane j) hl k b
    exact ⟨rxFifo, rxVis, txFifo, txVis, divisor⟩
  rw [State.brPerform_narrow]
  rcases s.brPerform_cases beat b with ⟨hb, h⟩ | ⟨hb, ha, h⟩ | ⟨hb, ha, hc, h⟩ | ⟨hb, ha, hc, h⟩ | ⟨hb, ha, hc, h⟩ |
    ⟨hb, ha, hc, h⟩ | ⟨hb, ha, hc, h⟩ <;> rw [h]
  · exact .of_no_strobe (by simp [narrowBeat, hb]) (by simp [narrowBeat, hb]) rfl rfl rfl rfl rfl
  · exact .of_no_strobe (by simp [narrowBeat, ha]) (by simp [narrowBeat, ha]) rfl rfl rfl rfl rfl
  · obtain ⟨rxFifo, rxVis, txFifo, txVis, divisor⟩ :=
      State.issueLane_effect (s := s.driveBridgePort false) hl 0 b
    rw [hb, ha, hc]
    exact ⟨rxFifo, rxVis, txFifo, txVis, divisor⟩
  · rw [hb, ha, hc]
    exact collected 0 1 2
  · rw [hb, ha, hc]
    exact collected 1 2 3
  · rw [hb, ha, hc]
    exact collected 2 3 4
  · have h3 : ¬ s.el.brCnt.toNat ≤ 3 := by omega
    exact .of_no_strobe (by simp [narrowBeat, h3]) (by simp [narrowBeat, h3]) rfl rfl rfl rfl rfl

/-! The components' operations of a clock cycle, by the keys of R103. -/

theorem exec_mcOp (s : State) : exec s.mcOp s = .next (s.mcPerform s.mcBeatNow s.downstream) := by
  unfold State.mcOp
  rcases s.mcPerform_cases s.mcBeatNow s.downstream with ⟨hs, hb, h⟩ | ⟨hs, hb, h⟩ | ⟨hs, hb, h⟩ | ⟨hs, hb, h⟩ <;>
    rw [h, hs, hb] <;> rfl

theorem exec_brOp (s : State) : exec s.brOp s = .next (s.brPerform s.brBeatNow s.downstream) := by
  unfold State.brOp decodeBR State.brPerform
  split_ifs <;> rfl

theorem exec_arbOp (s : State) :
    exec s.arbOp s = .next (s.arbPerform (portRequest s.inp .m1).cyc (portRequest s.inp .m0).cyc) := by
  unfold State.arbOp State.arbPerform
  cases s.el.grant <;> cases (portRequest s.inp .m1).cyc <;> cases (portRequest s.inp .m0).cyc <;> rfl

/-! The Decoder passes the request to one slave in a legal fabric (R262, R266). -/

/-- The beats that reach the slaves are those of R160 and R192. -/
theorem State.decPerform_el {s : State} (hl : s.cfg.legal = true) (d : Request) :
    (s.decPerform d).el =
      ((s.mcPerform (strobed d && selMem s.cfg d.adr) d).brPerform (strobed d && selCsr s.cfg d.adr) d).el := by
  rcases s.decPerform_cases d with ⟨hm, h⟩ | ⟨hm, hc, h⟩ | ⟨hm, hc, h⟩
  · rw [h, State.routeMem_el, hm, selCsr_of_selMem hl hm, Bool.and_true, Bool.and_false]
  · rw [h, State.routeCsr_el, hm, hc, Bool.and_true, Bool.and_false]
  · rw [h, State.routeMiss_el, hm, hc, Bool.and_false]

/-- The record whose elements are those of their owners' records (R84): the grant, the controller's elements of `mc`, the
others of `br`. -/
def Elements.joined (grant : Master) (mc br : Elements) : Elements :=
  { br with grant := grant, mcState := mc.mcState, mcAdr := mc.mcAdr, mem := mc.mem }

/-- The slaves' operations of one clock cycle, each as if run alone (R90). -/
theorem State.decPerform_el_joined {s : State} (hl : s.cfg.legal = true) (d : Request) :
    (s.decPerform d).el =
      .joined s.el.grant (s.mcPerform (strobed d && selMem s.cfg d.adr) d).el
        (s.brPerform (strobed d && selCsr s.cfg d.adr) d).el := by
  rw [State.decPerform_el hl, State.mcPerform_eq_besideBridge, State.brPerform_besideBridge, State.mcPerform_el]
  rfl

/-! What an operation makes of the record depends on no output. -/

theorem State.mcPerform_el_congr {s t : State} (cfg : t.cfg = s.cfg) (el : t.el = s.el) (beat : Bool) (b : Request) :
    (t.mcPerform beat b).el = (s.mcPerform beat b).el := by
  unfold State.mcPerform
  rw [el]
  cases s.el.mcState <;> cases beat
  · exact el
  · simp only [State.mcLatch_el, cfg, el]
  · simp only [State.mcRelease_el, el]
  · simp only [State.mcBeat_el, cfg, el, State.advance_mcAdr_congr s t b.cti b.bte (by rw [el]) cfg]

theorem State.arbPerform_grant_congr {s t : State} (h : t.el.grant = s.el.grant) (cyc1 cyc0 : Bool) :
    (t.arbPerform cyc1 cyc0).el.grant = (s.arbPerform cyc1 cyc0).el.grant := by
  unfold State.arbPerform
  rw [h]
  cases s.el.grant <;> cases cyc1 <;> cases cyc0 <;> rfl

theorem State.wait_eq_besideBridge (s : State) (m : Master) :
    s.wait m = s.besideBridge s.el (s.wait m).out s.wires.p := by
  cases m <;> rfl

/-! The two ports' operations. -/

/-- The state after the waiting port's operation and the granted port's. -/
def State.served (s : State) : State := (s.wait s.el.grant.other).portCycle s.el.grant s.downstream

theorem Master.ne_other (m : Master) : m ≠ m.other := by cases m <;> decide

theorem exec_waitingOp (s : State) : exec s.waitingOp s = .next (s.wait s.el.grant.other) := by
  rw [State.waitingOp, exec_decodeWB, State.portCycle, if_neg (Master.ne_other _)]

theorem exec_grantedOp (s : State) : exec s.grantedOp (s.wait s.el.grant.other) = .next s.served := by
  obtain ⟨_, _, hinp, _⟩ := s.wait_context s.el.grant.other
  have h := exec_decodeWB (s.wait s.el.grant.other) s.el.grant
  rw [hinp] at h
  exact h

theorem State.served_eq (s : State) :
    s.served = (((s.wait s.el.grant.other).decPerform s.downstream).respond s.el.grant).arbPerform
      (portRequest s.inp .m1).cyc (portRequest s.inp .m0).cyc := by
  rw [State.served, State.portCycle, if_pos (by rw [State.wait_el])]
  have inp : (((s.wait s.el.grant.other).decPerform s.downstream).respond s.el.grant).inp = s.inp := by
    obtain ⟨_, _, h, _⟩ := sameContext_trans (sameContext_trans (s.wait_context s.el.grant.other)
      (State.decPerform_context _ s.downstream)) (State.respond_context _ s.el.grant)
    exact h
  unfold State.downstream State.arbitrate at *
  cases hg : s.el.grant <;> rw [hg] at inp <;> simp only [inp]

theorem State.served_context (s : State) : sameContext s s.served :=
  sameContext_trans (State.wait_context _ _) (State.portCycle_context _ _ _)

/-- The ports' operations leave of the record what the Arbiter, the controller and the Bridge leave, each run alone. -/
theorem State.served_el {s : State} (hl : s.cfg.legal = true) :
    s.served.el =
      .joined (s.arbPerform (portRequest s.inp .m1).cyc (portRequest s.inp .m0).cyc).el.grant
        (s.mcPerform s.mcBeatNow s.downstream).el (s.brPerform s.brBeatNow s.downstream).el := by
  let w := s.wait s.el.grant.other
  have cfg : w.cfg = s.cfg := s.wait_cfg _
  have el : w.el = s.el := s.wait_el _
  have slaves : (w.decPerform s.downstream).el =
      .joined s.el.grant (w.mcPerform s.mcBeatNow s.downstream).el (w.brPerform s.brBeatNow s.downstream).el := by
    rw [State.decPerform_el_joined (cfg ▸ hl), cfg, el]
    rfl
  have mc : (w.mcPerform s.mcBeatNow s.downstream).el = (s.mcPerform s.mcBeatNow s.downstream).el :=
    State.mcPerform_el_congr cfg el _ _
  have br : w.brPerform s.brBeatNow s.downstream =
      (s.brPerform s.brBeatNow s.downstream).besideBridge s.el w.out s.wires.p := by
    rw [← State.brPerform_besideBridge, ← State.wait_eq_besideBridge]
  rw [State.served_eq, State.arbPerform_el, State.respond_el, slaves,
    State.arbPerform_grant_congr (s := s) (by rw [State.respond_el, slaves]; rfl), mc, br]
  rfl

/-! One FIFO's clock cycle (R221, R224, R226): its FIFO operation, and its two halves performed by others. -/

/-- A FIFO's entries after a clock cycle: the consumer's pop, then the producer's push (R224, R234). -/
def fifoAfter {α : Type} (l : List α) (doWrite doRead : Bool) (e : α) : List α :=
  (if doRead then l.tail else l) ++ if doWrite then [e] else []

/-- A FIFO's counters after clock cycle `t`; `k` is the FIFO's seed within the clock cycle (R226). -/
def visAfter (mode : FifoMode) (v : Vis) (t k : Nat) (doWrite doRead : Bool) : Vis :=
  (v.bump mode doWrite doRead).reveal mode (4 * t + k) (4 * t + k + 1) v

/-- The push may come before the pop, since a pop finds an entry (R223). -/
theorem fifoAfter_push_first {α : Type} (l : List α) (doWrite doRead : Bool) (e : α) (h : doRead = true → l ≠ []) :
    (if doRead then (l ++ if doWrite then [e] else []).tail else l ++ if doWrite then [e] else []) =
      fifoAfter l doWrite doRead e := by
  cases doRead with
  | false => rfl
  | true => exact List.tail_append_of_ne_nil (h rfl)

theorem readReady_ne_nil {α : Type} {mode : FifoMode} {l : List α} {v : Vis} (h : readReady mode l.length v = true) :
    l ≠ [] := by
  rintro rfl
  cases mode <;> simp [readReady] at h

theorem Vis.bump_bump (v : Vis) (mode : FifoMode) (w r w' r' : Bool) (hw : w = false ∨ w' = false)
    (hr : r = false ∨ r' = false) : (v.bump mode w r).bump mode w' r' = v.bump mode (w || w') (r || r') := by
  cases mode with
  | exactFlags => rfl
  | laggingFlags => rcases hw with rfl | rfl <;> rcases hr with rfl | rfl <;> simp [Vis.bump]

theorem exec_decodeFIFO_rx (s : State) (doWrite doRead : Bool) (e : RxEntry) :
    ∃ t, exec (decodeFIFO .rx doWrite doRead e) s = .next t ∧ t.el.rxFifo = fifoAfter s.el.rxFifo doWrite doRead e ∧
      t.el.rxVis = visAfter s.cfg.fifoMode s.el.rxVis s.tick 0 doWrite doRead := by
  cases doWrite <;> cases doRead <;> refine ⟨_, rfl, ?_, ?_⟩ <;>
    simp [fifoAfter, visAfter, State.reveal, State.vis, State.push, State.pop, State.rxReveal, State.rxPush, State.rxPop,
      Vis.bump_bump]

theorem exec_decodeFIFO_tx (s : State) (doWrite doRead : Bool) (e : RxEntry) :
    ∃ t, exec (decodeFIFO .tx doWrite doRead e) s = .next t ∧
      t.el.txFifo = fifoAfter s.el.txFifo doWrite doRead (e.setWidth 8) ∧
      t.el.txVis = visAfter s.cfg.fifoMode s.el.txVis s.tick 2 doWrite doRead := by
  cases doWrite <;> cases doRead <;> refine ⟨_, rfl, ?_, ?_⟩ <;>
    simp [fifoAfter, visAfter, State.reveal, State.vis, State.push, State.pop, State.txReveal, State.txPush, State.txPop,
      Vis.bump_bump]

/-! The two sides of the transceiver. -/

/-- The receive side's operation pushes where it accepts; of outputs it drives `rx_ack` only (R230, R237, R238). -/
theorem exec_decodeRX (s : State) (rdy wRdy : Bool) (data : Byte) (ovf ferr perr : Bool) :
    ∃ t, exec (decodeRX rdy wRdy data ovf ferr perr) s = .next t ∧ sameContext s t ∧
      (∀ m, t.out.master m = s.out.master m) ∧
      t.el =
        { s.el with
          rxFifo := s.el.rxFifo ++ if rdy && wRdy then [rxEntry data ovf ferr perr] else []
          rxVis := s.el.rxVis.bump s.cfg.fifoMode (rdy && wRdy) false } := by
  cases rdy <;> cases wRdy <;> refine ⟨_, rfl, ⟨rfl, rfl, rfl, rfl⟩, fun m => by cases m <;> rfl, ?_⟩ <;>
    simp [State.rxPush_el]

/-- The transmit side's operation pops where it pulls; of outputs it drives `tx_ack` and `tx_data` only (R231, R240, R246). -/
theorem exec_decodeTX (s : State) (rdy rRdy : Bool) :
    ∃ t, exec (decodeTX rdy rRdy) s = .next t ∧ sameContext s t ∧ (∀ m, t.out.master m = s.out.master m) ∧
      t.el =
        { s.el with
          txFifo := if rdy && rRdy then s.el.txFifo.tail else s.el.txFifo
          txVis := s.el.txVis.bump s.cfg.fifoMode false (rdy && rRdy) } := by
  cases rdy <;> cases rRdy <;> refine ⟨_, rfl, ⟨rfl, rfl, rfl, rfl⟩, fun m => by cases m <;> rfl, ?_⟩ <;>
    simp [State.txPop_el]

/-! One step (R90, R303). In these definitions `s` is the state with the row of inputs loaded. -/

/-- `rx_fifo`'s do_write (R245). -/
def State.rxPushNow (s : State) : Bool := s.inp.x.rxRdy && s.rxWriteReady

/-- `rx_fifo`'s do_read (R245). -/
def State.rxPopNow (s : State) : Bool :=
  s.readStrobe && decide (s.narrowNow.toNat = s.cfg.offRxData) && s.rxReadReady

/-- `tx_fifo`'s do_write (R245). -/
def State.txPushNow (s : State) : Bool :=
  s.writeStrobe && decide (s.narrowNow.toNat = s.cfg.offTxData) && s.txWriteReady

/-- `tx_fifo`'s do_read (R245). -/
def State.txPullNow (s : State) : Bool := s.inp.x.txRdy && s.txReadReady

/-- The entry the transceiver offers (R102). -/
def State.rxEntryNow (s : State) : RxEntry := rxEntry s.inp.x.rxData s.inp.x.rxOvf s.inp.x.rxFerr s.inp.x.rxPerr

/-- The record a clock cycle leaves, each element as its owner's operation leaves it (R20, R84, R90). -/
def State.nextElements (s : State) : Elements :=
  { Elements.joined (s.arbPerform (portRequest s.inp .m1).cyc (portRequest s.inp .m0).cyc).el.grant
      (s.mcPerform s.mcBeatNow s.downstream).el (s.brPerform s.brBeatNow s.downstream).el with
    rxFifo := fifoAfter s.el.rxFifo s.rxPushNow s.rxPopNow s.rxEntryNow
    txFifo := fifoAfter s.el.txFifo s.txPushNow s.txPullNow (lane s.downstream.datW s.laneNow)
    rxVis := visAfter s.cfg.fifoMode s.el.rxVis s.tick 0 s.rxPushNow s.rxPopNow
    txVis := visAfter s.cfg.fifoMode s.el.txVis s.tick 2 s.txPushNow s.txPullNow }

/-- The narrow bus the clock cycle's keys are made of is the one the Bridge drives (R192). -/
theorem State.brPerform_effect_now {s : State} (hl : s.cfg.legal = true) :
    NarrowEffect s (narrowBeat s.cfg s.narrowActive s.laneNow s.downstream) (s.brPerform s.brBeatNow s.downstream).el := by
  have h := State.brPerform_effect hl s.brBeatNow s.downstream
  rwa [State.brPerform_narrow] at h

/-- After the ports' operations the narrow bus's halves of the FIFOs' operations are done (R245). -/
theorem State.served_el_fifos {s : State} (hl : s.cfg.legal = true) :
    s.served.el =
      { s.nextElements with
        rxFifo := if s.rxPopNow then s.el.rxFifo.tail else s.el.rxFifo
        rxVis := s.el.rxVis.bump s.cfg.fifoMode false s.rxPopNow
        txFifo := s.el.txFifo ++ if s.txPushNow then [lane s.downstream.datW s.laneNow] else []
        txVis := s.el.txVis.bump s.cfg.fifoMode s.txPushNow false } := by
  obtain ⟨rxFifo, rxVis, txFifo, txVis, _⟩ := State.brPerform_effect_now hl
  change _ = if s.rxPopNow then _ else _ at rxFifo
  change _ = s.el.rxVis.bump s.cfg.fifoMode false s.rxPopNow at rxVis
  change _ = s.el.txFifo ++ if s.txPushNow then [lane s.downstream.datW s.laneNow] else [] at txFifo
  change _ = s.el.txVis.bump s.cfg.fifoMode s.txPushNow false at txVis
  rw [State.served_el hl, ← rxFifo, ← rxVis, ← txFifo, ← txVis]
  rfl

/-- After the transceiver's sides both halves are done, and nothing is revealed yet (R245). -/
theorem exec_transceiver_el {s c d : State} (hl : s.cfg.legal = true) (hc : exec s.rxOp s.served = .next c)
    (hd : exec s.txOp c = .next d) :
    sameContext s d ∧ (∀ m, d.out.master m = s.served.out.master m) ∧
      d.el =
        { s.nextElements with
          rxVis := s.el.rxVis.bump s.cfg.fifoMode s.rxPushNow s.rxPopNow
          txVis := s.el.txVis.bump s.cfg.fifoMode s.txPushNow s.txPullNow } := by
  obtain ⟨c', hc', rxContext, rxOut, rxEl⟩ := exec_decodeRX s.served s.inp.x.rxRdy s.rxWriteReady s.inp.x.rxData
    s.inp.x.rxOvf s.inp.x.rxFerr s.inp.x.rxPerr
  obtain rfl : c = c' := by injection hc.symm.trans hc'
  obtain ⟨d', hd', txContext, txOut, txEl⟩ := exec_decodeTX c s.inp.x.txRdy s.txReadReady
  obtain rfl : d = d' := by injection hd.symm.trans hd'
  refine ⟨sameContext_trans s.served_context (sameContext_trans rxContext txContext),
    fun m => (txOut m).trans (rxOut m), ?_⟩
  have pull : s.txPullNow = true → s.el.txFifo ≠ [] := fun h => readReady_ne_nil (Bool.and_eq_true_iff.mp h).2
  have rxMode : s.served.cfg.fifoMode = s.cfg.fifoMode := by rw [s.served_context.1]
  have txMode : c.cfg.fifoMode = s.cfg.fifoMode := by rw [rxContext.1, rxMode]
  have txFifo := fifoAfter_push_first s.el.txFifo s.txPushNow s.txPullNow (lane s.downstream.datW s.laneNow) pull
  have rxVis := s.el.rxVis.bump_bump s.cfg.fifoMode false s.rxPopNow s.rxPushNow false (.inl rfl) (.inr rfl)
  have txVis := s.el.txVis.bump_bump s.cfg.fifoMode s.txPushNow false false s.txPullNow (.inr rfl) (.inl rfl)
  simp only [Bool.false_or, Bool.or_false] at rxVis txVis
  rw [txEl, rxEl, rxMode, txMode, State.served_el_fifos hl, ← rxVis, ← txVis]
  unfold State.nextElements
  rw [← txFifo]
  rfl

/-- What a clock cycle of a legal fabric leaves: the record, the context, and of the outputs the ports' responses. -/
theorem step_next {s : State} (hl : s.cfg.legal = true) :
    ∃ t, step s = .next t ∧ t.el = s.load.nextElements ∧ t.cfg = s.cfg ∧ t.tick = s.tick + 1 ∧
      ∀ m, t.out.master m = s.load.served.out.master m := by
  obtain ⟨a, b, c, d, ha, hb, hc, hd, hstep⟩ := step_of_legal hl
  obtain rfl : a = s.load.wait s.load.el.grant.other := by injection ha.symm.trans (exec_waitingOp s.load)
  obtain rfl : b = s.load.served := by injection hb.symm.trans (exec_grantedOp s.load)
  obtain ⟨⟨cfg, _, _, tick⟩, out, el⟩ := exec_transceiver_el (s := s.load) hl hc hd
  refine ⟨_, hstep, ?_, cfg, congrArg (· + 1) tick, out⟩
  show { d.el with
    rxVis := d.el.rxVis.reveal d.cfg.fifoMode (4 * d.tick) (4 * d.tick + 1) s.load.el.rxVis
    txVis := d.el.txVis.reveal d.cfg.fifoMode (4 * d.tick + 2) (4 * d.tick + 3) s.load.el.txVis } = _
  rw [el, cfg, tick]
  rfl

/-- The same, of a step that is known to have been performed. -/
theorem step_inversion {s t : State} (h : step s = .next t) :
    s.cfg.legal = true ∧ t.el = s.load.nextElements ∧ t.cfg = s.cfg ∧ t.tick = s.tick + 1 ∧
      ∀ m, t.out.master m = s.load.served.out.master m := by
  cases hl : s.cfg.legal with
  | false => cases h.symm.trans (step_of_illegal hl)
  | true =>
    obtain ⟨t', ht', facts⟩ := step_next hl
    obtain rfl : t = t' := by injection h.symm.trans ht'
    exact ⟨rfl, facts⟩

/-- Settles O10: every key's operation is the model's shared function of its component, the Bridge and the controller commute,
and the halves of a FIFO's operation make up the FIFO's operation. -/
theorem stepPerformsOneOperationOfEachComponent : Obligations.StepPerformsOneOperationOfEachComponent := by
  intro s hl
  obtain ⟨t, hstep, el, _⟩ := step_next hl
  obtain ⟨rx, hrx, rxFifo, rxVis⟩ := exec_decodeFIFO_rx s.load s.load.rxPushNow s.load.rxPopNow s.load.rxEntryNow
  obtain ⟨tx, htx, txFifo, txVis⟩ := exec_decodeFIFO_tx s.load s.load.txPushNow s.load.txPullNow
    ((lane s.load.downstream.datW s.load.laneNow).setWidth 11)
  refine ⟨t, _, _, _, rx, tx, hstep, exec_mcOp _, exec_brOp _, exec_arbOp _, hrx, htx, ?_⟩
  have narrow : ((lane s.load.downstream.datW s.load.laneNow).setWidth 11).setWidth 8 =
      lane s.load.downstream.datW s.load.laneNow := BitVec.setWidth_setWidth_of_le _ (by decide)
  rw [el, rxFifo, rxVis, txFifo, txVis, narrow]
  rfl

/-! The invariants of R44, element by element: each owner's operation keeps the bounds of its own elements. -/

/-! The Memory Controller: the latched address, the array. -/

theorem memIndex_lt (c : Config) (adr : Adr) : (memIndex c adr).toNat < 2 ^ c.memAW := by
  rw [memIndex, BitVec.toNat_ofNat]
  exact (Nat.mod_le _ _).trans_lt (Nat.mod_lt _ (by positivity))

theorem nextLinear_lt (c : Config) (a : Index) : (nextLinear c a).toNat < 2 ^ c.memAW := by
  rw [nextLinear, BitVec.toNat_ofNat]
  exact (Nat.mod_le _ _).trans_lt (Nat.mod_lt _ (by positivity))

/-- A wrapping step stays in its window, and so below every bound made of whole windows (R170). -/
theorem nextWrap_lt (c : Config) (w : Nat) (a : Index) (h : a.toNat < 2 ^ c.memAW) :
    (nextWrap c w a).toNat < 2 ^ c.memAW := by
  obtain ⟨q, hq⟩ : 2 ^ min w c.memAW ∣ 2 ^ c.memAW := Nat.pow_dvd_pow 2 (Nat.min_le_right _ _)
  simp only [nextWrap, BitVec.toNat_ofNat]
  refine (Nat.mod_le _ _).trans_lt ?_
  rw [hq] at h ⊢
  generalize 2 ^ min w c.memAW = p at *
  have windows : a.toNat / p < q := Nat.div_lt_of_lt_mul h
  have hp : 0 < p := Nat.pos_of_ne_zero (by rintro rfl; omega)
  have inWindow := Nat.mod_lt (a.toNat + 1) hp
  calc a.toNat / p * p + (a.toNat + 1) % p < (a.toNat / p + 1) * p := by rw [Nat.add_mul]; omega
    _ ≤ p * q := by rw [Nat.mul_comm p]; exact Nat.mul_le_mul_right p windows

theorem State.advance_mcAdr_lt (s : State) (cti : BitVec 3) (bte : BitVec 2) (h : s.el.mcAdr.toNat < 2 ^ s.cfg.memAW) :
    (s.advance cti bte).el.mcAdr.toNat < 2 ^ s.cfg.memAW := by
  rcases s.advance_cases cti bte with ⟨_, hs⟩ | ⟨_, hs⟩ | ⟨_, hs⟩ | ⟨_, hs⟩ <;> rw [hs]
  · exact nextLinear_lt s.cfg s.el.mcAdr
  · exact nextWrap_lt s.cfg 2 s.el.mcAdr h
  · exact nextWrap_lt s.cfg 3 s.el.mcAdr h
  · exact nextWrap_lt s.cfg 4 s.el.mcAdr h

theorem State.mcPerform_mcAdr_lt (s : State) (beat : Bool) (b : Request) (h : s.el.mcAdr.toNat < 2 ^ s.cfg.memAW) :
    (s.mcPerform beat b).el.mcAdr.toNat < 2 ^ s.cfg.memAW := by
  rcases s.mcPerform_cases beat b with ⟨_, _, hs⟩ | ⟨_, _, hs⟩ | ⟨_, _, hs⟩ | ⟨_, _, hs⟩ <;> rw [hs]
  · exact h
  · exact memIndex_lt s.cfg b.adr
  · exact h
  · rw [State.mcBeat_el]
    exact s.advance_mcAdr_lt b.cti b.bte h

/-- The controller stores at most one word, in CYCLE, at the latched address (R162, R166). -/
theorem State.mcPerform_mem (s : State) (beat : Bool) (b : Request) :
    (s.mcPerform beat b).el.mem =
      if s.el.mcState = .cycle ∧ beat = true ∧ b.we = true ∧ s.cfg.memWritable = true then
        s.el.mem.writeWord s.el.mcAdr.toNat b.sel b.datW
      else s.el.mem := by
  rcases s.mcPerform_cases beat b with ⟨hs, hb, h⟩ | ⟨hs, hb, h⟩ | ⟨hs, hb, h⟩ | ⟨hs, hb, h⟩ <;> rw [h]
  · simp [State.mcIdle_el, hs]
  · simp [State.mcLatch_el, hs]
  · simp [State.mcRelease_el, hb]
  · simp [State.mcBeat_el, hs, hb]

theorem State.mcPerform_mem_wf (s : State) (beat : Bool) (b : Request) (h : s.el.mem.wf = true) :
    (s.mcPerform beat b).el.mem.wf = true := by
  rw [State.mcPerform_mem]
  split
  · exact Memory.writeWord_wf _ _ _ _ h
  · exact h

theorem State.mcPerform_mem_bound (s : State) (beat : Bool) (b : Request) (n : Nat) (hadr : 4 * s.el.mcAdr.toNat + 4 ≤ n)
    (h : ∀ cell ∈ s.el.mem, cell.1 < n) : ∀ cell ∈ (s.mcPerform beat b).el.mem, cell.1 < n := by
  rw [State.mcPerform_mem]
  split
  · exact Memory.writeWord_bound _ _ _ _ _ hadr h
  · exact h

/-! The Bridge: the counter and the acknowledge. -/

theorem State.issueLane_brAck (s : State) (k : Nat) (adr : Adr) (sel : BitVec 4) (we : Bool) (datW : Word) :
    (s.issueLane k adr sel we datW).el.brAck = s.el.brAck := by
  rcases s.issueLane_cases k adr sel we datW with ⟨_, _, h⟩ | ⟨_, _, h⟩ | ⟨_, h⟩ <;> rw [h]
  · rw [State.csrWrite_el]
    rfl
  · rw [State.csrRead_el]
    rfl
  · rfl

/-- The counter counts to 4, and an acknowledge is scheduled with the counter cleared only, from every state (R44, R192). -/
theorem State.brPerform_counter (s : State) (beat : Bool) (b : Request) :
    (s.brPerform beat b).el.brCnt.toNat ≤ 4 ∧
      ((s.brPerform beat b).el.brAck = true → (s.brPerform beat b).el.brCnt = 0#3) := by
  have laneBeat (w : State) (k : Nat) (v : BitVec 3) (hv : v.toNat ≤ 4) (ha : w.el.brAck = false) :
      ((w.issueLane k b.adr b.sel b.we b.datW).setBrCnt v).el.brCnt.toNat ≤ 4 ∧
        (((w.issueLane k b.adr b.sel b.we b.datW).setBrCnt v).el.brAck = true →
          ((w.issueLane k b.adr b.sel b.we b.datW).setBrCnt v).el.brCnt = 0#3) := by
    simp [State.issueLane_brAck, ha, hv]
  rcases s.brPerform_cases beat b with ⟨_, h⟩ | ⟨_, _, h⟩ | ⟨_, ha, _, h⟩ | ⟨_, ha, _, h⟩ | ⟨_, ha, _, h⟩ | ⟨_, ha, _, h⟩ |
    ⟨_, _, _, h⟩ <;> rw [h]
  · exact ⟨Nat.zero_le 4, fun _ => rfl⟩
  · exact ⟨Nat.zero_le 4, fun _ => rfl⟩
  · exact laneBeat (s.driveBridgePort false) 0 1 (by decide) ha
  · exact laneBeat ((s.driveBridgePort false).collectLane 0) 1 2 (by decide) ha
  · exact laneBeat ((s.driveBridgePort false).collectLane 1) 2 3 (by decide) ha
  · exact laneBeat ((s.driveBridgePort false).collectLane 2) 3 4 (by decide) ha
  · exact ⟨Nat.zero_le 4, fun _ => rfl⟩

/-- The divisor stays within DIVISOR_WIDTH (R208). -/
theorem NarrowEffect.divisor_lt {s : State} {n : NarrowBus} {e : Elements} (h : NarrowEffect s n e)
    (hs : s.el.divisor.toNat < 2 ^ s.cfg.divisorWidth) : e.divisor.toNat < 2 ^ s.cfg.divisorWidth := by
  rcases h.divisor with hd | ⟨_, x, hd⟩
  · rwa [hd]
  · rw [hd, BitVec.toNat_ofNat]
    exact (Nat.mod_le _ _).trans_lt (Nat.mod_lt _ (by positivity))

/-! The FIFOs. -/

theorem length_fifoAfter {α : Type} (l : List α) (doWrite doRead : Bool) (e : α) :
    (fifoAfter l doWrite doRead e).length = l.length - doRead.toNat + doWrite.toNat := by
  cases doWrite <;> cases doRead <;> simp [fifoAfter]

/-- A FIFO that is pushed only where it is ready to write and popped only where it is ready to read keeps its depth and the
bounds of its counters (R44, R226). -/
theorem fifo_bounds {α : Type} {mode : FifoMode} {depth : Nat} {l : List α} {v : Vis} {doWrite doRead : Bool}
    (hlen : l.length ≤ depth) (hvis : v.ok mode depth l.length)
    (hw : doWrite = true → writeReady mode depth l.length v = true)
    (hr : doRead = true → readReady mode l.length v = true) (e : α) (t k : Nat) :
    (fifoAfter l doWrite doRead e).length ≤ depth ∧
      (visAfter mode v t k doWrite doRead).ok mode depth (fifoAfter l doWrite doRead e).length := by
  have after := v.reveal_bump mode doWrite doRead (4 * t + k) (4 * t + k + 1)
  rw [length_fifoAfter]
  change v.after mode doWrite doRead (visAfter mode v t k doWrite doRead) at after
  generalize visAfter mode v t k doWrite doRead = v' at after
  cases mode with
  | exactFlags =>
    obtain rfl : v' = v := after
    refine ⟨?_, hvis⟩
    simp only [writeReady, decide_eq_true_eq] at hw
    cases doWrite <;> simp at hw ⊢ <;> omega
  | laggingFlags =>
    obtain ⟨revW, revR, _, _, _, _, hidW, hidR, _, _⟩ := after
    obtain ⟨entries, slots⟩ := hvis
    simp only [writeReady, readReady, decide_eq_true_eq] at hw hr
    simp only [Vis.ok, hidW, hidR]
    cases doWrite <;> cases doRead <;> simp at hw hr ⊢ <;> omega

/-- Settles O14: by O10's form of the step each element is bounded by its owner's operation alone. -/
theorem stepKeepsTheInvariants : Obligations.StepKeepsTheInvariants := by
  rintro s ⟨cfg, el, _, _, _, _, _⟩ inv hstep
  obtain ⟨hl, hel, hcfg, _⟩ := step_inversion hstep
  obtain rfl : cfg = s.cfg := hcfg
  obtain rfl : el = s.load.nextElements := hel
  have words := Config.memWords_eq_two_pow hl
  have adr : s.el.mcAdr.toNat < 2 ^ s.cfg.memAW := words ▸ inv.adr
  have lastByte : 4 * s.el.mcAdr.toNat + 4 ≤ s.cfg.memSize := by
    rw [Config.memSize_eq_two_pow hl, Nat.pow_add]
    omega
  obtain ⟨cnt, ack⟩ := s.load.brPerform_counter s.load.brBeatNow s.load.downstream
  obtain ⟨rxLen, rxVis⟩ := fifo_bounds (doWrite := s.load.rxPushNow) (doRead := s.load.rxPopNow) inv.rxLen inv.rxVis
    (fun h => (Bool.and_eq_true_iff.mp h).2) (fun h => (Bool.and_eq_true_iff.mp h).2) s.load.rxEntryNow s.load.tick 0
  obtain ⟨txLen, txVis⟩ := fifo_bounds (doWrite := s.load.txPushNow) (doRead := s.load.txPullNow) inv.txLen inv.txVis
    (fun h => (Bool.and_eq_true_iff.mp h).2) (fun h => (Bool.and_eq_true_iff.mp h).2)
    (lane s.load.downstream.datW s.load.laneNow) s.load.tick 2
  exact
    { legal := hl
      cnt := cnt
      ack := ack
      rxLen := rxLen
      txLen := txLen
      adr := (s.load.mcPerform_mcAdr_lt s.load.mcBeatNow s.load.downstream adr).trans_eq words.symm
      divisor := (State.brPerform_effect_now (s := s.load) hl).divisor_lt inv.divisor
      memForm := s.load.mcPerform_mem_wf s.load.mcBeatNow s.load.downstream inv.memForm
      memSize := s.load.mcPerform_mem_bound s.load.mcBeatNow s.load.downstream _ lastByte inv.memSize
      rxVis := rxVis
      txVis := txVis }

/-! Frames of the step: what changes only where the bus asks for it (R25, R30, R67, R166). -/

/-- Settles O34: `divisor` follows the narrow bus's effect, and each FIFO loses or gains an entry toward the bus by its own
strobe only. -/
theorem registerSideEffectsAreTheNamedOnes : Obligations.RegisterSideEffectsAreTheNamedOnes := by
  intro s t hstep
  obtain ⟨hl, el, _⟩ := step_inversion hstep
  rw [el]
  refine ⟨fun quiet => ?_, fun quiet => ?_, fun quiet => ?_⟩
  · rcases (State.brPerform_effect_now (s := s.load) hl).divisor with h | ⟨writes, _⟩
    · exact h
    · exact absurd writes quiet
  · have pop : s.load.rxPopNow = false := by
      rw [Bool.eq_false_iff]
      intro h
      simp only [State.rxPopNow, Bool.and_eq_true, decide_eq_true_eq] at h
      exact quiet h.1
    show s.el.rxFifo <+: fifoAfter s.el.rxFifo s.load.rxPushNow s.load.rxPopNow s.load.rxEntryNow
    rw [pop]
    exact List.prefix_append _ _
  · have push : s.load.txPushNow = false := by
      rw [Bool.eq_false_iff]
      intro h
      simp only [State.txPushNow, Bool.and_eq_true, decide_eq_true_eq] at h
      exact quiet h.1
    show fifoAfter s.el.txFifo s.load.txPushNow s.load.txPullNow _ <:+ s.el.txFifo
    rw [push, fifoAfter, if_neg Bool.false_ne_true, List.append_nil]
    split
    · exact List.tail_suffix _
    · exact List.suffix_rfl

/-- The downstream request of a clock cycle is the granted port's of the script's row (R281). -/
theorem State.load_downstream (s : State) : s.load.downstream = s.requestAt s.el.grant 0 := by
  show portRequest (s.script.headD {}) s.el.grant = portRequest (s.script.getD 0 {}) s.el.grant
  cases s.script <;> rfl

/-- The granted port sees the Decoder's response (R282). -/
theorem State.served_response (s : State) :
    s.served.out.master s.el.grant = ((s.wait s.el.grant.other).decPerform s.downstream).wires.d := by
  rw [State.served_eq, (State.arbPerform_signals _ _ _).1, State.respond, State.driveMaster_other, State.driveMaster_self]

/-- DEC.MEM answers with the controller's port (R263, R267). -/
theorem State.routeMem_response (s : State) (d : Request) :
    (s.routeMem d).wires.d =
      { ack := strobed d && decide (s.el.mcState = .cycle), err := false, datR := s.el.mem.readWord s.el.mcAdr.toNat } := by
  simp only [State.routeMem]
  rw [State.mcPerform_eq_besideBridge, State.brPerform_besideBridge]
  rfl

/-- Settles O58: the one word write of a clock cycle is the acknowledged beat's. -/
theorem memoryChangesOnlyOnItsAcknowledgeCycles : Obligations.MemoryChangesOnlyOnItsAcknowledgeCycles := by
  intro s t a hwf hstep hchange
  obtain ⟨_, el, _, _, out⟩ := step_inversion hstep
  have mem : t.el.mem = (s.load.mcPerform s.load.mcBeatNow s.load.downstream).el.mem := by
    rw [el]
    rfl
  rw [mem, State.mcPerform_mem] at hchange
  split at hchange
  case isFalse => exact absurd rfl hchange
  case isTrue hstore =>
    obtain ⟨hcycle, hbeat, hwe, hwritable⟩ := hstore
    obtain ⟨hstrobed, hsel⟩ := Bool.and_eq_true_iff.mp hbeat
    have hlane : a / 4 = s.load.el.mcAdr.toNat ∧ s.load.downstream.sel.getLsbD (a % 4) = true := by
      by_contra hkeep
      rw [Memory.read_writeWord s.load.el.mem _ _ _ hwf, mergedByte, if_neg hkeep] at hchange
      exact hchange rfl
    have ack : (t.out.master s.el.grant).ack = true := by
      let w := s.load.wait s.load.el.grant.other
      have wel : w.el = s.load.el := State.wait_el _ _
      have wsel : selMem w.cfg s.load.downstream.adr = true := by rwa [State.wait_cfg]
      rw [out, show s.el.grant = s.load.el.grant from rfl, State.served_response, State.decPerform, if_pos wsel,
        State.routeMem_response, hstrobed, wel, hcycle]
      rfl
    rw [← State.load_downstream]
    exact ⟨hwritable, hcycle, ack, hwe, hsel, hlane⟩

/-! The edge and the reset. -/

/-- Loading a clock cycle's inputs forgets the last clock cycle's signals (R20). -/
theorem State.load_congr {s s' : State} (cfg : s'.cfg = s.cfg) (el : s'.el = s.el) (script : s'.script = s.script)
    (tick : s'.tick = s.tick) : s'.load = s.load := by
  simp only [State.load, State.nextRow, cfg, el, script, tick]

/-- Settles O13: a step begins with the load, and reads nothing but its result and the configuration. -/
theorem signalsDoNotSurviveTheEdge : Obligations.SignalsDoNotSurviveTheEdge := by
  intro s s' cfg el script tick
  rw [step, step, State.load_congr cfg el script tick, cfg]

/-- Settles O15: every element starts at zero or empty, but the divisor and the memory, which R7 bounds. -/
theorem resetMeetsTheInvariants : Obligations.ResetMeetsTheInvariants := by
  have reset (c : Config) (hl : c.legal = true) : (State.resetOf c).Inv := by
    obtain ⟨_, _, _, _, mem4, _, _, _, _, _, _, _, _, _, _, _, _, init, divisor⟩ := (Config.legal_iff_checks c).mp hl
    have image : 4 * (0 + c.memInit.length) ≤ c.memSize := by
      have : c.memWords = c.memSize / 4 := rfl
      omega
    have noVis (mode : FifoMode) (depth : Nat) : ({} : Vis).ok mode depth 0 := by cases mode <;> simp [Vis.ok]
    exact
      { legal := hl
        cnt := Nat.zero_le 4
        ack := nofun
        rxLen := Nat.zero_le _
        txLen := Nat.zero_le _
        adr := Nat.div_pos mem4 (by decide)
        divisor := divisor
        memForm := State.resetOf_memory_wf c
        memSize := Memory.writeImage_bound [] 0 c.memInit c.memSize image nofun
        rxVis := noVis _ _
        txVis := noVis _ _ }
  exact ⟨reset, reset Config.ref Tests.test_ref_legal⟩

/-- A word of an image is written with all its lanes selected (R353). -/
theorem Memory.writeImage_cons (m : Memory) (i : Nat) (w : Word) (ws : List Word) :
    m.writeImage i (w :: ws) = (m.writeWord i (BitVec.allOnes 4) w).writeImage (i + 1) ws := by
  simp [Memory.writeImage, Memory.writeWord, Memory.writeLane]

/-- An image's bytes, lane 0 first (R60, R353); outside the image the memory keeps its bytes. -/
theorem Memory.read_writeImage (m : Memory) (i : Nat) (ws : List Word) (h : m.wf = true) (a : Nat) :
    (m.writeImage i ws).read a =
      if i ≤ a / 4 ∧ a / 4 < i + ws.length then (ws.getD (a / 4 - i) 0).extractLsb' (8 * (a % 4)) 8 else m.read a := by
  induction ws generalizing m i with
  | nil =>
    rw [if_neg (by simp)]
    rfl
  | cons w ws ih =>
    have selected : (BitVec.allOnes 4).getLsbD (a % 4) = true := by
      rw [BitVec.getLsbD_allOnes]
      exact decide_eq_true (Nat.mod_lt _ (by decide))
    rw [Memory.writeImage_cons, ih _ _ (Memory.writeWord_wf _ _ _ _ h), Memory.read_writeWord _ _ _ _ h, mergedByte]
    simp only [selected, and_true, List.length_cons]
    rcases Nat.lt_trichotomy (a / 4) i with hlt | heq | hgt
    · rw [if_neg (by omega), if_neg (by omega), if_neg (by omega)]
    · rw [if_neg (by omega), if_pos heq, if_pos (by omega), heq, Nat.sub_self, List.getD_cons_zero]
    · obtain ⟨k, hk⟩ : ∃ k, a / 4 - i = k + 1 := ⟨a / 4 - i - 1, by omega⟩
      have hk' : a / 4 - (i + 1) = k := by omega
      rw [hk, hk', List.getD_cons_succ, if_neg (Nat.ne_of_gt hgt)]
      exact if_congr (by omega) rfl rfl

/-- Settles O16: the table by the definition of the reset state, the memory byte by byte. -/
theorem resetLeavesTheTableValues : Obligations.ResetLeavesTheTableValues := by
  intro c
  refine ⟨rfl, rfl, rfl, rfl, rfl, fun a => ?_⟩
  show (Memory.writeImage [] 0 c.memInit).read a = _
  rw [Memory.read_writeImage _ _ _ Memory.wf_nil]
  split
  · rfl
  next outside =>
    have missing : c.memInit.length ≤ a / 4 := by omega
    rw [List.getD_eq_default _ _ missing, Memory.read_nil]
    simp [Memory.unlisted]

/-! The decoder: the register keys (R35, R103), and that what it accepts is well-formed (R39, R98). -/

/-- The REG key without the write bit. -/
theorem decode_reg_read {c : Config} (hl : c.legal = true) {addr : Nat} (h : addr < c.csrSize) (a : Args) :
    decode c ⟨.reg, addr, a⟩ = .ok (decodeREG c false (BitVec.ofNat 32 addr) a.csrWData) := by
  rw [Config.csrSize_eq_two_pow hl] at h
  have wide : ¬ 2 ^ (1 + c.csrAW) ≤ addr := by rw [Nat.pow_add]; omega
  simp only [decode, Format.keyWidth, wide, if_false, Nat.testBit_lt_two_pow h, Nat.mod_eq_of_lt h]

/-- The REG key with the write bit. -/
theorem decode_reg_write {c : Config} (hl : c.legal = true) {addr : Nat} (h : addr < c.csrSize) (a : Args) :
    decode c ⟨.reg, 2 ^ c.csrAW + addr, a⟩ = .ok (decodeREG c true (BitVec.ofNat 32 addr) a.csrWData) := by
  rw [Config.csrSize_eq_two_pow hl] at h
  have wide : ¬ 2 ^ (1 + c.csrAW) ≤ 2 ^ c.csrAW + addr := by rw [Nat.pow_add]; omega
  have strobe : (2 ^ c.csrAW + addr).testBit c.csrAW = true := by
    rw [Nat.testBit_two_pow_add_eq, Nat.testBit_lt_two_pow h]
    rfl
  simp only [decode, Format.keyWidth, wide, if_false, strobe, Nat.add_mod_left, Nat.mod_eq_of_lt h]

/-- A narrow address of the region has at most 32 bits (R7). -/
theorem toNat_narrow {c : Config} (hl : c.legal = true) {addr : Nat} (h : addr < c.csrSize) :
    (BitVec.ofNat 32 addr).toNat = addr := by
  obtain ⟨_, _, _, _, _, _, _, _, _, csrTop, _⟩ := (Config.legal_iff_checks c).mp hl
  rw [BitVec.toNat_ofNat, Nat.mod_eq_of_lt (by omega)]

/-- Every register lies in the region (R7). -/
theorem Config.registers_inside {c : Config} (hl : c.legal = true) :
    c.offCtrl + c.ctrlBytes ≤ c.csrSize ∧ c.offRxInfo < c.csrSize ∧ c.offRxData < c.csrSize ∧ c.offTxInfo < c.csrSize ∧
      c.offTxData < c.csrSize := by
  obtain ⟨_, _, _, _, _, _, _, inside, _⟩ := (Config.legal_iff c).mp hl
  simpa [Config.registers, Nat.succ_le_iff] using inside

/-- A narrow address holds byte `j` of CTRL iff it is the `j`-th of CTRL's bytes, which are at most four (R35, R103). -/
theorem ctrlByteAt_eq_some_iff {c : Config} (hl : c.legal = true) {addr : NarrowAdr} {j : BitVec 2} :
    ctrlByteAt c addr = some j ↔ j.toNat < c.ctrlBytes ∧ addr.toNat = c.offCtrl + j.toNat := by
  obtain ⟨_, _, _, _, _, _, _, _, _, _, _, _, _, _, div32, _⟩ := (Config.legal_iff_checks c).mp hl
  have bytes : c.ctrlBytes ≤ 4 := by
    show (c.divisorWidth + 7) / 8 ≤ 4
    omega
  have hj := j.isLt
  rw [ctrlByteAt]
  split
  next inside =>
    rw [Option.some_inj, ← BitVec.toNat_inj, BitVec.toNat_ofNat]
    omega
  next outside =>
    simp only [reduceCtorEq, false_iff]
    omega

/-! The REG operation, an equation per case (R103). -/

theorem decodeREG_ctrl {c : Config} {addr : NarrowAdr} {j : BitVec 2} (w : Bool) (data : Byte)
    (h : ctrlByteAt c addr = some j) : decodeREG c w addr data = if w then .ctrlWr j data else .ctrlRd j := by
  cases w <;> simp only [decodeREG, h] <;> rfl

theorem decodeREG_read {c : Config} {addr : NarrowAdr} (data : Byte) (h : ctrlByteAt c addr = none) :
    decodeREG c false addr data =
      if addr.toNat = c.offRxInfo then .rxInfoRd
      else if addr.toNat = c.offRxData then .rxDataRd
      else if addr.toNat = c.offTxInfo then .txInfoRd
      else .regRdNone addr := by
  simp only [decodeREG, h]

theorem decodeREG_write {c : Config} {addr : NarrowAdr} (data : Byte) (h : ctrlByteAt c addr = none) :
    decodeREG c true addr data = if addr.toNat = c.offTxData then .txDataWr data else .regWrNone addr data := by
  simp only [decodeREG, h]

/-- Settles O5: the write bit stands above the region's addresses, and the registers stand apart. -/
theorem registerKeysSelectTheirOperations : Obligations.RegisterKeysSelectTheirOperations := by
  intro c a hl
  have apart := Config.registersApart hl
  obtain ⟨ctrl, rxInfo, rxData, txInfo, txData⟩ := Config.registers_inside hl
  have read {addr : Nat} (h : addr < c.csrSize) (out : ¬ (c.offCtrl ≤ addr ∧ addr < c.offCtrl + c.ctrlBytes)) :
      decode c ⟨.reg, addr, a⟩ = .ok (if addr = c.offRxInfo then .rxInfoRd else if addr = c.offRxData then .rxDataRd
        else if addr = c.offTxInfo then .txInfoRd else .regRdNone (BitVec.ofNat 32 addr)) := by
    rw [decode_reg_read hl h, decodeREG_read, toNat_narrow hl h]
    rwa [ctrlByteAt_eq_none_iff, toNat_narrow hl h]
  have write {addr : Nat} (h : addr < c.csrSize) (out : ¬ (c.offCtrl ≤ addr ∧ addr < c.offCtrl + c.ctrlBytes)) :
      decode c ⟨.reg, 2 ^ c.csrAW + addr, a⟩ = .ok (if addr = c.offTxData then .txDataWr a.csrWData
        else .regWrNone (BitVec.ofNat 32 addr) a.csrWData) := by
    rw [decode_reg_write hl h, decodeREG_write, toNat_narrow hl h]
    rwa [ctrlByteAt_eq_none_iff, toNat_narrow hl h]
  refine ⟨fun j hj => ?_, ?_, ?_, ?_, ?_, fun addr h => ⟨fun out h1 h2 h3 => ?_, fun out h1 => ?_⟩⟩
  · have inside : c.offCtrl + j.toNat < c.csrSize := by omega
    have at_j := (ctrlByteAt_eq_some_iff hl).mpr ⟨hj, toNat_narrow hl inside⟩
    rw [decode_reg_read hl inside, decode_reg_write hl inside, decodeREG_ctrl _ _ at_j, decodeREG_ctrl _ _ at_j]
    exact ⟨rfl, rfl⟩
  · rw [read rxInfo apart.rxInfo, if_pos rfl]
  · rw [read rxData apart.rxData, if_neg apart.rxData_ne_rxInfo, if_pos rfl]
  · rw [read txInfo apart.txInfo, if_neg apart.txInfo_ne_rxInfo, if_neg apart.txInfo_ne_rxData, if_pos rfl]
  · rw [write txData apart.txData, if_pos rfl]
  · rw [read h (by omega), if_neg h1, if_neg h2, if_neg h3]
  · rw [write h (by omega), if_neg h1]

/-! Every operation the decoder gives is well-formed, format by format. -/

theorem readBeats_wf (c : Config) (m : Master) (adr : Adr) (sel : BitVec 4) :
    ∀ p ∈ readBeats m adr sel, p.1.wf c = true := by
  simp only [readBeats, List.forall_mem_cons]
  exact ⟨rfl, rfl, rfl, rfl, rfl, rfl, rfl, rfl, rfl, rfl, nofun⟩

theorem writeBeats_wf (c : Config) (m : Master) (adr : Adr) (sel : BitVec 4) (datW : Word) :
    ∀ p ∈ writeBeats m adr sel datW, p.1.wf c = true := by
  simp only [writeBeats, List.forall_mem_cons]
  exact ⟨rfl, rfl, rfl, rfl, rfl, rfl, rfl, rfl, rfl, rfl, nofun⟩

theorem decodeStrobe_wf (c : Config) (m : Master) (we : Bool) (cti : BitVec 3) (bte : BitVec 2) (adr : Adr)
    (sel : BitVec 4) (datW : Word) : (decodeStrobe m we cti bte adr sel datW).wf c = true := by
  cases we with
  | false =>
    obtain ⟨p, hp, hop, _⟩ := decodeStrobe_read m cti bte adr sel datW
    exact hop ▸ readBeats_wf c m adr sel p hp
  | true =>
    obtain ⟨p, hp, hop, _⟩ := decodeStrobe_write m cti bte adr sel datW
    exact hop ▸ writeBeats_wf c m adr sel datW p hp

theorem decodeWB_wf (c : Config) (m : Master) (b : Bracket) : (decodeWB m b).wf c = true := by
  unfold decodeWB
  split
  · rfl
  · split
    · rfl
    · exact decodeStrobe_wf c m _ _ _ _ _ _

theorem decodeMC_wf (c : Config) (inCycle beat : Bool) (a : Args) : (decodeMC inCycle beat a).wf c = true := by
  cases inCycle <;> cases beat <;> rfl

theorem decodeADV_wf (c : Config) (vk : BitVec 2) : (decodeADV vk).wf c = true := by
  unfold decodeADV
  split_ifs <;> rfl

theorem decodeBR_wf (c : Config) (beat ack : Bool) (cnt : BitVec 3) (a : Args) :
    (decodeBR beat ack cnt a).wf c = true := by
  unfold decodeBR
  split_ifs <;> rfl

/-- A byte of CTRL exists where the decoder finds one; an unlisted byte is none of the registers it asked for (R103). -/
theorem decodeREG_wf {c : Config} (hl : c.legal = true) (w : Bool) {addr : NarrowAdr} (hin : inRegion c addr = true)
    (data : Byte) : (decodeREG c w addr data).wf c = true := by
  cases hc : ctrlByteAt c addr with
  | some j =>
    have hj := ((ctrlByteAt_eq_some_iff hl).mp hc).1
    rw [decodeREG_ctrl w data hc]
    cases w <;> exact decide_eq_true hj
  | none =>
    cases w with
    | false =>
      rw [decodeREG_read data hc]
      split_ifs with h1 h2 h3
      · rfl
      · rfl
      · rfl
      · show (inRegion c addr && !readableByte c addr) = true
        simp [readableByte, hin, hc, h1, h2, h3]
    | true =>
      rw [decodeREG_write data hc]
      split_ifs with h1
      · rfl
      · show (inRegion c addr && !writableByte c addr) = true
        simp [writableByte, hin, hc, h1]

theorem decodeFIFO_wf (c : Config) (f : FifoId) (doWrite doRead : Bool) (wData : RxEntry)
    (h : ¬ (f = .tx ∧ doWrite = true ∧ 256 ≤ wData.toNat)) : (decodeFIFO f doWrite doRead wData).wf c = true := by
  have width : (decide (f = .rx) || decide (wData.toNat < 256)) = true ∨ doWrite = false := by
    cases f <;> cases doWrite <;> simp_all
  rcases width with width | rfl
  · cases doWrite <;> cases doRead
    · rfl
    · rfl
    · exact width
    · exact width
  · cases doRead <;> rfl

theorem decodeRX_wf (c : Config) (rdy wRdy : Bool) (data : Byte) (ovf ferr perr : Bool) :
    (decodeRX rdy wRdy data ovf ferr perr).wf c = true := by
  cases rdy <;> cases wRdy <;> rfl

theorem decodeTX_wf (c : Config) (rdy rRdy : Bool) : (decodeTX rdy rRdy).wf c = true := by
  cases rdy <;> cases rRdy <;> rfl

/-- The operation's range is the one the decoder finds the address in (R262). -/
theorem decodeDEC_wf (c : Config) (d : Request) : (decodeDEC c d).wf c = true := by
  unfold decodeDEC
  split_ifs with hm hc
  · exact hm
  · exact hc
  · show decodeMiss c d.adr = true
    simp [decodeMiss, hm, hc]

theorem decodeARB_wf (c : Config) (grant : Master) (cyc1 cyc0 : Bool) : (decodeARB grant cyc1 cyc0).wf c = true := by
  cases grant <;> cases cyc1 <;> cases cyc0 <;> rfl

/-- Settles O2, format by format: each component's decoder gives well-formed operations, and the refusals of the formats CSR and
FIFO leave operands in their ranges. -/
theorem decodedOperationsAreWellFormed : Obligations.DecodedOperationsAreWellFormed := by
  rintro c ⟨fmt, key, a⟩ i hl h
  unfold decode at h
  split at h
  · cases h
  cases fmt with
  | wb => exact Except.ok.inj h ▸ decodeWB_wf c _ _
  | mc => exact Except.ok.inj h ▸ decodeMC_wf c _ _ _
  | adv => exact Except.ok.inj h ▸ decodeADV_wf c _
  | br => exact Except.ok.inj h ▸ decodeBR_wf c _ _ _ _
  | csr =>
    dsimp only at h
    split_ifs at h with both none outside read
    · exact Except.ok.inj h ▸ rfl
    · have inside : inRegion c a.csrAddr = true := by simpa using outside
      exact Except.ok.inj h ▸ inside
    · have inside : inRegion c a.csrAddr = true := by simpa using outside
      exact Except.ok.inj h ▸ inside
  | reg =>
    have inside : inRegion c (BitVec.ofNat 32 (key % 2 ^ c.csrAW)) = true := by
      have hlt : key % 2 ^ c.csrAW < c.csrSize := by
        rw [Config.csrSize_eq_two_pow hl]
        exact Nat.mod_lt _ (Nat.two_pow_pos _)
      rw [inRegion, toNat_narrow hl hlt]
      exact decide_eq_true hlt
    exact Except.ok.inj h ▸ decodeREG_wf hl _ inside _
  | fifo =>
    dsimp only at h
    split_ifs at h with wide
    exact Except.ok.inj h ▸ decodeFIFO_wf c _ _ _ _ wide
  | ux =>
    dsimp only at h
    cases hf : a.fifo <;> rw [hf] at h
    · exact Except.ok.inj h ▸ decodeRX_wf c _ _ _ _ _ _
    · exact Except.ok.inj h ▸ decodeTX_wf c _ _
  | dec => exact Except.ok.inj h ▸ decodeDEC_wf c _
  | arb => exact Except.ok.inj h ▸ decodeARB_wf c _ _ _

end Sys2Proof.Machine

/-! Runs of the fabric (20_memory.md, 43_uart_fifo.md): the FIFOs as queues between the bus and the transceiver (R83, R242),
a memory word across a write and a read beat (R61, R77), the address ranges (R71). -/

namespace Sys2Proof.Machine

/-- Settles O41: the selects are the ranges because the bases are aligned to sizes that are powers of two, and the ranges of a
legal configuration stand apart. -/
theorem rangesAreExactAndDisjoint : Obligations.RangesAreExactAndDisjoint := by
  intro c adr hl
  refine ⟨selMem_iff hl adr, selCsr_iff hl adr, ?_⟩
  rintro ⟨hm, hc⟩
  rw [selCsr_of_selMem hl hm] at hc
  cases hc

/-! Runs. -/

/-- A run that was performed began with a step. -/
theorem runFor_succ_inversion {n : Nat} {s t : State} (h : runFor (n + 1) s = .next t) :
    ∃ u, step s = .next u ∧ runFor n u = .next t := by
  cases hs : step s with
  | next u => exact ⟨u, rfl, by simpa [runFor, hs] using h⟩
  | fault r => simp [runFor, hs] at h
  | refused r => simp [runFor, hs] at h

theorem runFor_succ_of_step {n : Nat} {s u : State} (h : step s = .next u) : runFor (n + 1) s = runFor n u := by
  simp [runFor, h]

/-! What the clock cycle shows on the transceiver's side (R239, R245). -/

theorem exec_decodeRX_rxAck {s t : State} {rdy wRdy : Bool} {data : Byte} {ovf ferr perr : Bool}
    (h : exec (decodeRX rdy wRdy data ovf ferr perr) s = .next t) : t.out.rxAck = (rdy && wRdy) := by
  cases rdy <;> cases wRdy <;> cases h <;> rfl

/-- The transmit side's operation shows the oldest byte where it pulls, and leaves `rx_ack` alone (R231). -/
theorem exec_decodeTX_out {s t : State} {rdy rRdy : Bool} (h : exec (decodeTX rdy rRdy) s = .next t) :
    t.out.rxAck = s.out.rxAck ∧ t.out.txAck = (rdy && rRdy) ∧
      ((rdy && rRdy) = true → t.out.txData = s.el.txFifo.headD (Free.txEntry s.tick)) := by
  cases rdy <;> cases rRdy <;> cases h <;> refine ⟨rfl, rfl, ?_⟩
  · nofun
  · nofun
  · nofun
  · exact fun _ => rfl

/-- A step's inputs, its acknowledges to the transceiver, and that `tx_data` is the oldest byte where it is taken. -/
theorem step_transceiver {s t : State} (h : step s = .next t) :
    t.inp = s.nextRow ∧ t.script = s.script.tail ∧ t.out.rxAck = s.load.rxPushNow ∧ t.out.txAck = s.load.txPullNow ∧
      (s.load.txPullNow = true → s.el.txFifo.take 1 = [t.out.txData]) := by
  have hl : s.load.cfg.legal = true := (step_inversion h).1
  obtain ⟨a, b, c, d, ha, hb, hc, hd, hstep⟩ := step_of_legal (s := s) hl
  obtain rfl : a = s.load.wait s.load.el.grant.other := by injection ha.symm.trans (exec_waitingOp s.load)
  obtain rfl : b = s.load.served := by injection hb.symm.trans (exec_grantedOp s.load)
  obtain rfl : t = d.edge s.load := by injection h.symm.trans hstep
  obtain ⟨⟨_, script, inp, _⟩, _⟩ := exec_transceiver_el hl hc hd
  obtain ⟨rxAck, txAck, txData⟩ := exec_decodeTX_out hd
  refine ⟨inp, script, rxAck.trans (exec_decodeRX_rxAck hc), txAck, fun pull => ?_⟩
  -- The byte pushed in this clock cycle stands behind the oldest one.
  have fifo : c.el.txFifo = s.el.txFifo ++ if s.load.txPushNow then [lane s.load.downstream.datW s.load.laneNow] else [] := by
    obtain ⟨c', hc', _, _, rxEl⟩ := exec_decodeRX s.load.served s.load.inp.x.rxRdy s.load.rxWriteReady s.load.inp.x.rxData
      s.load.inp.x.rxOvf s.load.inp.x.rxFerr s.load.inp.x.rxPerr
    obtain rfl : c = c' := by injection hc.symm.trans hc'
    rw [rxEl, State.served_el_fifos hl]
    rfl
  obtain ⟨e, rest, held⟩ := List.exists_cons_of_ne_nil (readReady_ne_nil (Bool.and_eq_true_iff.mp pull).2 : s.el.txFifo ≠ [])
  have shown : d.out.txData = e := by rw [txData pull, fifo, held]; rfl
  rw [held]
  exact congrArg (fun v => [v]) shown.symm

/-! A FIFO as a queue. -/

/-- What a FIFO held and takes in is what it hands over and still holds (R224). -/
theorem fifoAfter_conserves {α : Type} (l : List α) (doWrite doRead : Bool) (e : α) :
    (l ++ if doWrite then [e] else []) = (if doRead then l.take 1 else []) ++ fifoAfter l doWrite doRead e := by
  cases doRead with
  | false => rfl
  | true => simp [fifoAfter, ← List.append_assoc, ← List.drop_one]

/-- A queue that every step conserves is conserved by every run: `came n s` and `gone n s` are what enters and what leaves it in
`n` clock cycles from `s`, one clock cycle's share before the others'. -/
theorem run_conserves_queue {α : Type} {queue : State → List α} {came gone : Nat → State → List α}
    (came_zero : ∀ s, came 0 s = []) (gone_zero : ∀ s, gone 0 s = [])
    (conserved : ∀ n s t, step s = .next t → ∃ new old,
      came (n + 1) s = new ++ came n t ∧ gone (n + 1) s = old ++ gone n t ∧ queue s ++ new = old ++ queue t)
    (n : Nat) (s t : State) (h : runFor n s = .next t) : queue s ++ came n s = gone n s ++ queue t := by
  induction n generalizing s with
  | zero =>
    cases h
    rw [came_zero, gone_zero, List.append_nil, List.nil_append]
  | succ n ih =>
    obtain ⟨u, hstep, hrun⟩ := runFor_succ_inversion h
    obtain ⟨new, old, hcame, hgone, hqueue⟩ := conserved n s u hstep
    calc queue s ++ came (n + 1) s = (queue s ++ new) ++ came n u := by rw [hcame, List.append_assoc]
      _ = old ++ (queue u ++ came n u) := by rw [hqueue, List.append_assoc]
      _ = old ++ (gone n u ++ queue t) := by rw [ih u hrun]
      _ = gone (n + 1) s ++ queue t := by rw [hgone, List.append_assoc]

/-- Settles O39: in each clock cycle the transmit FIFO is a queue from TX_DATA to the transceiver. -/
theorem transmittedBytesAreTheWrittenOnes : Obligations.TransmittedBytesAreTheWrittenOnes := by
  refine run_conserves_queue (queue := fun s => s.el.txFifo) (fun _ => rfl) (fun _ => rfl) fun n s t hstep => ?_
  obtain ⟨_, el, _⟩ := step_inversion hstep
  obtain ⟨_, _, _, txAck, txData⟩ := step_transceiver hstep
  refine ⟨s.txPushed, if s.load.txPullNow then s.el.txFifo.take 1 else [], by simp [txWritten, hstep], ?_, ?_⟩
  · simp only [txSent, hstep, txAck]
    cases hpull : s.load.txPullNow with
    | false => rfl
    | true => rw [if_pos rfl, if_pos rfl, txData hpull]
  · rw [el]
    exact fifoAfter_conserves s.el.txFifo s.load.txPushNow s.load.txPullNow _

/-- Settles O40: in each clock cycle the receive FIFO is a queue from the transceiver to RX_DATA; the count follows from the
lists. -/
theorem receivedEntriesArriveInOrder : Obligations.ReceivedEntriesArriveInOrder := by
  intro n s t hrun
  have queue : s.el.rxFifo ++ rxTaken n s = rxRead n s ++ t.el.rxFifo := by
    refine run_conserves_queue (queue := fun s => s.el.rxFifo) (fun _ => rfl) (fun _ => rfl) (fun n s t hstep => ?_) n s t hrun
    obtain ⟨_, el, _⟩ := step_inversion hstep
    obtain ⟨inp, _, rxAck, _⟩ := step_transceiver hstep
    refine ⟨if s.load.rxPushNow then [s.load.rxEntryNow] else [], s.rxPopped, ?_, by simp [rxRead, hstep], ?_⟩
    · simp only [rxTaken, hstep, rxAck, inp]
      rfl
    · rw [el]
      exact fifoAfter_conserves s.el.rxFifo s.load.rxPushNow s.load.rxPopNow _
  refine ⟨queue, ?_⟩
  have count := congrArg List.length queue
  rw [List.length_append, List.length_append] at count
  omega

/-! A port that holds the bus (R283 to R285): the grant stays, and the controller sees its requests alone. -/

/-- One clock cycle from `s` to `t` in which port `m` holds the bus. -/
structure HeldCycle (m : Master) (s t : State) : Prop where
  step : step s = .next t
  cfg : t.cfg = s.cfg
  grant : t.el.grant = m
  requestAt : ∀ k, t.requestAt m k = s.requestAt m (k + 1)

/-- The Arbiter leaves the grant where its holder has `cyc` (R284, R285). -/
theorem State.arbPerform_held (s : State) (h : (portRequest s.inp s.el.grant).cyc = true) :
    (s.arbPerform (portRequest s.inp .m1).cyc (portRequest s.inp .m0).cyc).el.grant = s.el.grant := by
  unfold State.arbPerform
  cases hg : s.el.grant <;> rw [hg] at h <;> simp [h]

/-- The granted port's `cyc` keeps the bus, and the controller performs the operation of its request (R160, R266, R283). -/
theorem heldCycle_of_cyc {m : Master} {s : State} (hl : s.cfg.legal = true) (hg : s.el.grant = m)
    (hcyc : (s.requestAt m 0).cyc = true) :
    ∃ t, HeldCycle m s t ∧
      outsideBridge
        (s.load.mcPerform (strobed (s.requestAt m 0) && selMem s.cfg (s.requestAt m 0).adr) (s.requestAt m 0)).el t.el := by
  subst hg
  obtain ⟨t, hstep, el, cfg, _⟩ := step_next hl
  obtain ⟨_, script, _⟩ := step_transceiver hstep
  rw [← State.load_downstream] at hcyc ⊢
  have grant : t.el.grant = s.el.grant := by
    rw [el]
    exact s.load.arbPerform_held hcyc
  refine ⟨t, ⟨hstep, cfg, grant, fun k => ?_⟩, ?_⟩
  · simp only [State.requestAt, State.rowAt, script]
    cases s.script <;> rfl
  · refine ⟨by rw [grant, State.mcPerform_el]; rfl, ?_⟩
    rw [el]
    exact ⟨rfl, rfl, rfl⟩

/-- The granted port sees the controller's port while its request selects the memory (R172, R267, R282). -/
theorem step_memory_response {s t : State} (h : step s = .next t)
    (hsel : selMem s.cfg (s.requestAt s.el.grant 0).adr = true) :
    t.out.master s.el.grant =
      { ack := strobed (s.requestAt s.el.grant 0) && decide (s.el.mcState = .cycle), err := false
        datR := s.el.mem.readWord s.el.mcAdr.toNat } := by
  obtain ⟨_, _, _, _, out⟩ := step_inversion h
  rw [← State.load_downstream] at hsel ⊢
  have wsel : selMem (s.load.wait s.load.el.grant.other).cfg s.load.downstream.adr = true := by rwa [State.wait_cfg]
  rw [out, show s.el.grant = s.load.el.grant from rfl, State.served_response, State.decPerform, if_pos wsel,
    State.routeMem_response, State.wait_el]
  rfl

/-! The controller's operation in each state, an equation per case (R160), and the clock cycles a memory access is made of. -/

theorem State.mcPerform_latch {s : State} (h : s.el.mcState = .idle) (b : Request) :
    s.mcPerform true b = s.mcLatch b.adr := by
  simp [State.mcPerform, h]

theorem State.mcPerform_beat {s : State} (h : s.el.mcState = .cycle) (b : Request) :
    s.mcPerform true b = s.mcBeat b.we b.sel b.datW b.cti b.bte := by
  simp [State.mcPerform, h]

theorem State.mcPerform_release {s : State} (h : s.el.mcState = .cycle) (b : Request) :
    s.mcPerform false b = s.mcRelease := by
  simp [State.mcPerform, h]

section
variable {m : Master} {s : State} (hl : s.cfg.legal = true) (hg : s.el.grant = m)
include hl hg

/-- The first clock cycle of a beat latches the word's index (R161). -/
theorem heldCycle_latch (hidle : s.el.mcState = .idle) (hbeat : strobed (s.requestAt m 0) = true)
    (hsel : selMem s.cfg (s.requestAt m 0).adr = true) :
    ∃ t, HeldCycle m s t ∧ t.el.mcState = .cycle ∧ t.el.mcAdr = memIndex s.cfg (s.requestAt m 0).adr ∧
      t.el.mem = s.el.mem := by
  obtain ⟨t, held, mc⟩ := heldCycle_of_cyc hl hg (Bool.and_eq_true_iff.mp hbeat).1
  rw [hbeat, hsel, Bool.and_true, State.mcPerform_latch (s := s.load) hidle, State.mcLatch_el] at mc
  obtain ⟨_, mcState, mcAdr, mem⟩ := mc
  exact ⟨t, held, mcState, mcAdr, mem⟩

/-- The second clock cycle of a write beat commits the selected lanes (R162, R166). -/
theorem heldCycle_write (hcycle : s.el.mcState = .cycle) (hwritable : s.cfg.memWritable = true)
    (hbeat : strobed (s.requestAt m 0) = true) (hsel : selMem s.cfg (s.requestAt m 0).adr = true)
    (hwe : (s.requestAt m 0).we = true) :
    ∃ t, HeldCycle m s t ∧ t.el.mcState = .cycle ∧
      t.el.mem = s.el.mem.writeWord s.el.mcAdr.toNat (s.requestAt m 0).sel (s.requestAt m 0).datW := by
  obtain ⟨t, held, mc⟩ := heldCycle_of_cyc hl hg (Bool.and_eq_true_iff.mp hbeat).1
  rw [hbeat, hsel, Bool.and_true, State.mcPerform_beat (s := s.load) hcycle, State.mcBeat_el, hwe] at mc
  obtain ⟨_, mcState, _, mem⟩ := mc
  exact ⟨t, held, mcState, mem.trans (if_pos (Bool.and_eq_true_iff.mpr ⟨rfl, hwritable⟩))⟩

/-- A clock cycle without a beat releases the controller (R126, R163). -/
theorem heldCycle_release (hcycle : s.el.mcState = .cycle) (hcyc : (s.requestAt m 0).cyc = true)
    (hstb : (s.requestAt m 0).stb = false) :
    ∃ t, HeldCycle m s t ∧ t.el.mcState = .idle ∧ t.el.mem = s.el.mem := by
  obtain ⟨t, held, mc⟩ := heldCycle_of_cyc hl hg hcyc
  rw [strobed, hstb, Bool.and_false, Bool.false_and, State.mcPerform_release (s := s.load) hcycle, State.mcRelease_el] at mc
  obtain ⟨_, mcState, _, mem⟩ := mc
  exact ⟨t, held, mcState, mem⟩

/-- The second clock cycle of a beat is acknowledged and shows the latched word (R162, R172). -/
theorem heldCycle_acknowledge (hcycle : s.el.mcState = .cycle) (hbeat : strobed (s.requestAt m 0) = true)
    (hsel : selMem s.cfg (s.requestAt m 0).adr = true) :
    ∃ t, HeldCycle m s t ∧
      t.out.master m = { ack := true, err := false, datR := s.el.mem.readWord s.el.mcAdr.toNat } := by
  obtain ⟨t, held, _⟩ := heldCycle_of_cyc hl hg (Bool.and_eq_true_iff.mp hbeat).1
  subst hg
  have response := step_memory_response held.step hsel
  rw [hbeat, hcycle] at response
  exact ⟨t, held, response⟩

end

/-- The index latched for an address is its low MEM_AW bits (R100). -/
theorem memIndex_toNat (c : Config) (adr : Adr) : (memIndex c adr).toNat = adr.toNat % 2 ^ c.memAW := by
  rw [memIndex, BitVec.toNat_ofNat, Nat.mod_eq_of_lt ((Nat.mod_le _ _).trans_lt adr.isLt)]

/-- Lane `k` of a memory word is the word's `k`-th byte (R60). -/
theorem lane_readWord (m : Memory) (i : Nat) {k : Nat} (h : k < 4) : lane (m.readWord i) k = m.read (4 * i + k) := by
  unfold lane Memory.readWord
  interval_cases k
  · rw [BitVec.extractLsb'_append_eq_of_add_le, BitVec.extractLsb'_append_eq_of_add_le,
      BitVec.extractLsb'_append_eq_of_add_le, BitVec.extractLsb'_eq_self, Nat.add_zero] <;> decide
  · rw [BitVec.extractLsb'_append_eq_of_add_le, BitVec.extractLsb'_append_eq_of_add_le,
      BitVec.extractLsb'_append_eq_of_le, BitVec.extractLsb'_eq_self] <;> decide
  · rw [BitVec.extractLsb'_append_eq_of_add_le, BitVec.extractLsb'_append_eq_of_le, BitVec.extractLsb'_eq_self] <;> decide
  · rw [BitVec.extractLsb'_append_eq_of_le, BitVec.extractLsb'_eq_self]
    decide

/-- The byte of lane `k` after a word write (R10). -/
theorem mergedByte_lane (m : Memory) (i : Nat) (sel : BitVec 4) (v : Word) {k : Nat} (h : k < 4) :
    mergedByte m i sel v (4 * i + k) = if sel.getLsbD k then lane v k else m.read (4 * i + k) := by
  have word : (4 * i + k) / 4 = i := by omega
  have byte : (4 * i + k) % 4 = k := by omega
  simp only [mergedByte, word, byte, true_and]
  rfl

/-- Settles O23: latch, commit, release, latch, and the fifth clock cycle shows the committed word. -/
theorem writeIsReadBack : Obligations.WriteIsReadBack := by
  intro s m adr sel sel' sel'' datW datW' datW'' cti cti' bte bte' inv hwritable hg hidle hsel r0 r1 r2 r3 r4
  have hl := inv.legal
  obtain ⟨s1, held1, cycle1, index1, mem1⟩ := heldCycle_latch hl hg hidle (by rw [r0]; rfl) (by rw [r0]; exact hsel)
  have cfg1 := held1.cfg
  rw [← held1.requestAt] at r1 r2 r3 r4
  obtain ⟨s2, held2, cycle2, mem2⟩ := heldCycle_write (cfg1 ▸ hl) held1.grant cycle1 (cfg1 ▸ hwritable)
    (by rw [r1]; rfl) (by rw [r1, cfg1]; exact hsel) (by rw [r1]; rfl)
  have cfg2 := held2.cfg.trans cfg1
  rw [← held2.requestAt] at r2 r3 r4
  obtain ⟨s3, held3, idle3, mem3⟩ := heldCycle_release (cfg2 ▸ hl) held2.grant cycle2 (by rw [r2]; rfl) (by rw [r2]; rfl)
  have cfg3 := held3.cfg.trans cfg2
  rw [← held3.requestAt] at r3 r4
  obtain ⟨s4, held4, cycle4, index4, mem4⟩ := heldCycle_latch (cfg3 ▸ hl) held3.grant idle3 (by rw [r3]; rfl)
    (by rw [r3, cfg3]; exact hsel)
  have cfg4 := held4.cfg.trans cfg3
  rw [← held4.requestAt] at r4
  obtain ⟨s5, held5, response⟩ := heldCycle_acknowledge (cfg4 ▸ hl) held4.grant cycle4 (by rw [r4]; rfl)
    (by rw [r4, cfg4]; exact hsel)
  have run : runFor 5 s = .next s5 := by
    rw [runFor_succ_of_step held1.step, runFor_succ_of_step held2.step, runFor_succ_of_step held3.step,
      runFor_succ_of_step held4.step, runFor_succ_of_step held5.step]
    rfl
  refine ⟨s5, run, by rw [response], fun k hk => ?_⟩
  rw [r0] at index1
  rw [r1] at mem2
  rw [r3, cfg3] at index4
  have word : s4.el.mem = s.el.mem.writeWord (memIndex s.cfg adr).toNat sel datW := by
    rw [mem4, mem3, mem2, mem1, index1]
    rfl
  have index : s4.el.mcAdr = memIndex s.cfg adr := index4
  rw [response, index, word, lane_readWord _ _ hk, Memory.read_writeWord _ _ _ _ inv.memForm, mergedByte_lane _ _ _ _ hk,
    memIndex_toNat]

end Sys2Proof.Machine

/-! The decoder on whole words (30_encoding.md R90 to R105): every row of the key tables reads back as its operation, every
operation's word decodes to it, and the refusals are the ones named. -/

namespace Sys2Proof.Machine

/-! The decoder, an equation per format, for a key of the format's width (R90). -/

section
variable {c : Config} {key : Nat} {a : Args}

theorem decode_wb (h : key < 2 ^ 8) :
    decode c ⟨.wb, key, a⟩ =
      .ok (decodeWB a.port { cw := BitVec.ofNat 8 key, adr := a.adr, sel := a.sel, datW := a.datW }) :=
  if_neg (Nat.not_le.mpr h)

theorem decode_wb_cw (cw : BitVec 8) :
    decode c ⟨.wb, cw.toNat, a⟩ = .ok (decodeWB a.port { cw := cw, adr := a.adr, sel := a.sel, datW := a.datW }) := by
  rw [decode_wb cw.isLt, BitVec.ofNat_toNat, BitVec.setWidth_eq]

/-- The same, with the fields of the control word (R93). -/
theorem decode_wb_fields (h : key < 2 ^ 8) :
    decode c ⟨.wb, key, a⟩ =
      .ok (if !(BitVec.ofNat 8 key).getLsbD 7 then .wbIdle a.port a.adr
        else if !(BitVec.ofNat 8 key).getLsbD 6 then .wbWait a.port a.adr
        else decodeStrobe a.port ((BitVec.ofNat 8 key).getLsbD 5) ((BitVec.ofNat 8 key).extractLsb' 2 3)
          ((BitVec.ofNat 8 key).extractLsb' 0 2) a.adr a.sel a.datW) :=
  decode_wb h

theorem decode_mc (h : key < 2 ^ 2) : decode c ⟨.mc, key, a⟩ = .ok (decodeMC (key.testBit 1) (key.testBit 0) a) :=
  if_neg (Nat.not_le.mpr h)

theorem decode_br (h : key < 2 ^ 5) :
    decode c ⟨.br, key, a⟩ = .ok (decodeBR (key.testBit 4) (key.testBit 3) (BitVec.ofNat 3 key) a) :=
  if_neg (Nat.not_le.mpr h)

theorem decode_csr_read (h : inRegion c a.csrAddr = true) : decode c ⟨.csr, 0b10, a⟩ = .ok (.csrRd a.csrAddr) := by
  simp [decode, Format.keyWidth, h]

theorem decode_csr_write (h : inRegion c a.csrAddr = true) :
    decode c ⟨.csr, 0b01, a⟩ = .ok (.csrWr a.csrAddr a.csrWData) := by
  simp [decode, Format.keyWidth, h]

/-- A FIFO key is read where a pushed entry has the FIFO's width (R98). -/
theorem decode_fifo (h : key < 2 ^ 2) (width : key.testBit 1 = true → (Instr.fifoPush a.fifo a.wData).wf c = true) :
    decode c ⟨.fifo, key, a⟩ = .ok (decodeFIFO a.fifo (key.testBit 1) (key.testBit 0) a.wData) := by
  have narrow : ¬ (a.fifo = .tx ∧ key.testBit 1 = true ∧ 256 ≤ a.wData.toNat) := by
    rintro ⟨tx, push, wide⟩
    have fits : a.wData.toNat < 256 := by simpa [Instr.wf, tx] using width push
    exact Nat.not_lt.mpr wide fits
  simp only [decode, Format.keyWidth, Nat.not_le.mpr h, narrow, if_false]

theorem decode_fifo_wide (h : key < 2 ^ 2) (tx : a.fifo = .tx) (push : key.testBit 1 = true) (wide : 256 ≤ a.wData.toNat) :
    decode c ⟨.fifo, key, a⟩ = .error .entryTooWide :=
  (if_neg (Nat.not_le.mpr h)).trans (if_pos ⟨tx, push, wide⟩)

theorem decode_ux_rx (h : key < 2 ^ 2) (side : a.fifo = .rx) :
    decode c ⟨.ux, key, a⟩ = .ok (decodeRX (key.testBit 1) (key.testBit 0) a.rxData a.rxOvf a.rxFerr a.rxPerr) := by
  simp only [decode, Format.keyWidth, Nat.not_le.mpr h, if_false, side]

theorem decode_ux_tx (h : key < 2 ^ 2) (side : a.fifo = .tx) :
    decode c ⟨.ux, key, a⟩ = .ok (decodeTX (key.testBit 1) (key.testBit 0)) := by
  simp only [decode, Format.keyWidth, Nat.not_le.mpr h, if_false, side]

theorem decode_arb (h : key < 2 ^ 3) :
    decode c ⟨.arb, key, a⟩ = .ok (decodeARB (if key.testBit 2 then .m1 else .m0) (key.testBit 1) (key.testBit 0)) :=
  if_neg (Nat.not_le.mpr h)

end

/-- A DEC key is the address of its request (R90). -/
theorem decode_dec (c : Config) (d : Request) : decode c ⟨.dec, d.adr.toNat, decArgs d⟩ = .ok (decodeDEC c d) := by
  have width : ¬ 2 ^ 30 ≤ d.adr.toNat := Nat.not_le.mpr d.adr.isLt
  simp only [decode, Format.keyWidth, width, if_false, BitVec.ofNat_toNat, BitVec.setWidth_eq]
  rfl

/-! The rows of the key tables (R97, R103, R104). -/

/-- A bit that a mask keeps stands in the key as in the row's `match`. -/
theorem testBit_of_masked {key mask val : Nat} (h : key &&& mask = val) {i : Nat} (kept : mask.testBit i = true) :
    key.testBit i = val.testBit i := by
  rw [← h, Nat.testBit_and, kept, Bool.and_true]

/-- The same of a bit vector. -/
theorem getLsbD_of_masked {w i : Nat} {key mask val : BitVec w} (h : key &&& mask = val) (kept : mask.getLsbD i = true) :
    key.getLsbD i = val.getLsbD i := by
  rw [← h, BitVec.getLsbD_and, kept, Bool.and_true]

/-- A field that a mask keeps stands in the key as in the row's `match`. -/
theorem extractLsb'_of_masked {w start len : Nat} {key mask val : BitVec w} (h : key &&& mask = val)
    (kept : mask.extractLsb' start len = BitVec.allOnes len) : key.extractLsb' start len = val.extractLsb' start len := by
  rw [← h, BitVec.extractLsb'_and, kept, BitVec.and_allOnes]

theorem KeyRow.selects_iff {r : KeyRow} {fmt : Format} {f : FifoId} {key : Nat} :
    r.selects fmt f key = true ↔ r.fmt = fmt ∧ (r.side = none ∨ r.side = some f) ∧ key &&& r.mask = r.val := by
  simp [KeyRow.selects, and_assoc]

/-- What a component's row promises (it is O4 of one row): from every key it selects the decoder reads its operation. -/
def KeyRow.decodes (c : Config) (a : Args) (r : KeyRow) : Prop :=
  ∀ key, key < 2 ^ r.fmt.keyWidth c → r.selects r.fmt a.fifo key = true → (r.op a).wf c = true →
    decode c ⟨r.fmt, key, a⟩ = .ok (r.op a)

section
variable {c : Config} {a : Args} {r : KeyRow}

/-- A row whose mask keeps the whole key selects one key, its `match`. -/
theorem decodes_of_full_mask (full : r.mask = 2 ^ r.fmt.keyWidth c - 1)
    (h : r.side = none ∨ r.side = some a.fifo → (r.op a).wf c = true → decode c ⟨r.fmt, r.val, a⟩ = .ok (r.op a)) :
    r.decodes c a := by
  intro key width selected wf
  obtain ⟨_, side, masked⟩ := KeyRow.selects_iff.mp selected
  rw [full, Nat.and_two_pow_sub_one_of_lt_two_pow width] at masked
  exact masked ▸ h side wf

/-- A row with free bits is read by the bits its mask keeps. -/
theorem decodes_of_masked (h : ∀ key, key < 2 ^ r.fmt.keyWidth c → r.side = none ∨ r.side = some a.fifo →
    key &&& r.mask = r.val → decode c ⟨r.fmt, key, a⟩ = .ok (r.op a)) : r.decodes c a := by
  intro key width selected _
  obtain ⟨_, side, masked⟩ := KeyRow.selects_iff.mp selected
  exact h key width side masked

/-- A row of one side of the transceiver selects that side's keys only. -/
theorem fifo_eq_of_side {f g : FifoId} (h : some f = none ∨ some f = some g) : g = f :=
  (Option.some.inj (h.resolve_left nofun)).symm

end

/-- `br_cnt` 4 to 7 is BR.COLLECT (R198): the lanes' counts have bit 2 clear. -/
theorem decodeBR_collect {cnt : BitVec 3} (h : cnt.getLsbD 2 = true) (a : Args) :
    decodeBR true false cnt a = .brCollect := by
  have noLane : cnt ≠ 0#3 ∧ cnt ≠ 1#3 ∧ cnt ≠ 2#3 ∧ cnt ≠ 3#3 := by
    revert cnt
    decide
  simp [decodeBR, noLane]

/-- Each row of the components: a full mask leaves one key, and a row with free bits is read by the bits its mask keeps. -/
theorem componentKeyRows_decode (c : Config) (a : Args) : ∀ r ∈ componentKeyRows, r.decodes c a := by
  simp only [componentKeyRows, List.forall_mem_cons]
  refine ⟨?mcIdle, ?mcLatch, ?mcRelease, ?mcBeat, ?advLinear, ?advWrap4, ?advWrap8, ?advWrap16, ?brIdle, ?brLane0,
    ?brLane1, ?brLane2, ?brLane3, ?brCollect, ?brAck, ?csrNop, ?csrRd, ?csrWr, ?fifoNop, ?fifoPush, ?fifoPop,
    ?fifoPushPop, ?rxIdle, ?rxAccept, ?rxRefuse, ?txIdleEmpty, ?txIdleReady, ?txPull, ?txEmpty, ?arbHold0, ?arbHold1,
    ?arbSwitch01, ?arbSwitch10, ?arbPark0, ?arbPark1, nofun⟩
  case mcIdle | mcLatch | mcRelease | mcBeat => exact decodes_of_full_mask rfl fun _ _ => decode_mc (by decide)
  case advLinear | advWrap4 | advWrap8 | advWrap16 | csrNop => exact decodes_of_full_mask rfl fun _ _ => rfl
  case brLane0 | brLane1 | brLane2 | brLane3 => exact decodes_of_full_mask rfl fun _ _ => decode_br (by decide)
  case arbSwitch01 | arbSwitch10 | arbPark0 | arbPark1 =>
    exact decodes_of_full_mask rfl fun _ _ => decode_arb (by decide)
  case brIdle =>
    refine decodes_of_masked fun key width _ masked => ?_
    rw [decode_br width, testBit_of_masked masked (i := 4) rfl]
    rfl
  case brAck =>
    refine decodes_of_masked fun key width _ masked => ?_
    rw [decode_br width, testBit_of_masked masked (i := 4) rfl, testBit_of_masked masked (i := 3) rfl]
    rfl
  case brCollect =>
    refine decodes_of_masked fun key width _ masked => ?_
    have cnt : (BitVec.ofNat 3 key).getLsbD 2 = true := by
      rw [BitVec.getLsbD_ofNat, testBit_of_masked masked (i := 2) rfl]
      rfl
    rw [decode_br width, testBit_of_masked masked (i := 4) rfl, testBit_of_masked masked (i := 3) rfl]
    exact congrArg _ (decodeBR_collect cnt a)
  case csrRd => exact decodes_of_full_mask rfl fun _ wf => decode_csr_read wf
  case csrWr => exact decodes_of_full_mask rfl fun _ wf => decode_csr_write wf
  case fifoNop | fifoPop => exact decodes_of_full_mask rfl fun _ _ => decode_fifo (by decide) nofun
  case fifoPush | fifoPushPop => exact decodes_of_full_mask rfl fun _ wf => decode_fifo (by decide) fun _ => wf
  case rxIdle =>
    refine decodes_of_masked fun key width side masked => ?_
    rw [decode_ux_rx width (fifo_eq_of_side side), testBit_of_masked masked (i := 1) rfl]
    rfl
  case rxAccept | rxRefuse =>
    exact decodes_of_full_mask rfl fun side _ => decode_ux_rx (by decide) (fifo_eq_of_side side)
  case txIdleEmpty | txIdleReady | txPull | txEmpty =>
    exact decodes_of_full_mask rfl fun side _ => decode_ux_tx (by decide) (fifo_eq_of_side side)
  case arbHold0 =>
    refine decodes_of_masked fun key width _ masked => ?_
    rw [decode_arb width, testBit_of_masked masked (i := 2) rfl, testBit_of_masked masked (i := 0) rfl]
    cases key.testBit 1 <;> rfl
  case arbHold1 =>
    refine decodes_of_masked fun key width _ masked => ?_
    rw [decode_arb width, testBit_of_masked masked (i := 2) rfl, testBit_of_masked masked (i := 1) rfl]
    cases key.testBit 0 <;> rfl

/-- Settles O4: it is the rows' promise, row by row. -/
theorem componentKeysSelectTheirOperations : Obligations.ComponentKeysSelectTheirOperations :=
  fun c key a r hr => componentKeyRows_decode c a r hr key

/-! The WB operation by the fields of CW that select it (R93, R97). -/

theorem decodeWB_idle {b : Bracket} (cyc : b.cw.getLsbD 7 = false) (m : Master) : decodeWB m b = .wbIdle m b.adr := by
  simp only [decodeWB, Bracket.request, cyc]
  rfl

theorem decodeWB_wait {b : Bracket} (cyc : b.cw.getLsbD 7 = true) (stb : b.cw.getLsbD 6 = false) (m : Master) :
    decodeWB m b = .wbWait m b.adr := by
  simp only [decodeWB, Bracket.request, cyc, stb]
  rfl

/-- A beat's row keeps `cyc`, `stb` and `we`, the first two of them 1. -/
theorem decodeWB_beat {b : Bracket} {mask val : BitVec 8} (masked : b.cw &&& mask = val)
    (kept : ∀ i : Fin 3, mask.getLsbD (5 + i) = true) (cyc : val.getLsbD 7 = true) (stb : val.getLsbD 6 = true)
    (m : Master) :
    decodeWB m b =
      decodeStrobe m (val.getLsbD 5) (b.cw.extractLsb' 2 3) (b.cw.extractLsb' 0 2) b.adr b.sel b.datW := by
  have hcyc : b.cw.getLsbD 7 = true := (getLsbD_of_masked masked (kept 2)).trans cyc
  have hstb : b.cw.getLsbD 6 = true := (getLsbD_of_masked masked (kept 1)).trans stb
  have hwe : b.cw.getLsbD 5 = val.getLsbD 5 := getLsbD_of_masked masked (kept 0)
  simp only [decodeWB, Bracket.request, hcyc, hstb, hwe]
  rfl

/-- The 22 rows of R97, each by the bits its mask keeps. -/
theorem decodeWB_row (cw : BitVec 8) (a : Args) : ∀ r ∈ wbKeyRows, cw &&& BitVec.ofNat 8 r.mask = BitVec.ofNat 8 r.val →
    decodeWB a.port { cw := cw, adr := a.adr, sel := a.sel, datW := a.datW } = r.op a := by
  simp only [wbKeyRows, List.forall_mem_cons]
  refine ⟨?idle, ?wait, ?rdClassic, ?wrClassic, ?rdConst, ?wrConst, ?rdLinear, ?rdWrap4, ?rdWrap8, ?rdWrap16,
    ?wrLinear, ?wrWrap4, ?wrWrap8, ?wrWrap16, ?rdRsvd3, ?wrRsvd3, ?rdRsvd45, ?wrRsvd45, ?rdRsvd6, ?wrRsvd6, ?rdEob,
    ?wrEob, nofun⟩
  case idle => exact fun masked => decodeWB_idle (getLsbD_of_masked masked rfl) _
  case wait => exact fun masked => decodeWB_wait (getLsbD_of_masked masked rfl) (getLsbD_of_masked masked rfl) _
  case rdClassic | wrClassic | rdConst | wrConst | rdRsvd3 | wrRsvd3 | rdRsvd6 | wrRsvd6 | rdEob | wrEob =>
    intro masked
    rw [decodeWB_beat masked (by decide) rfl rfl, extractLsb'_of_masked masked (start := 2) (len := 3) rfl]
    rfl
  case rdLinear | rdWrap4 | rdWrap8 | rdWrap16 | wrLinear | wrWrap4 | wrWrap8 | wrWrap16 =>
    intro masked
    rw [decodeWB_beat masked (by decide) rfl rfl, extractLsb'_of_masked masked (start := 2) (len := 3) rfl,
      extractLsb'_of_masked masked (start := 0) (len := 2) rfl]
    rfl
  case rdRsvd45 | wrRsvd45 =>
    intro masked
    have cti : cw.extractLsb' 2 3 = 0b100#3 ∨ cw.extractLsb' 2 3 = 0b101#3 := by
      revert cw
      decide
    rw [decodeWB_beat masked (by decide) rfl rfl]
    rcases cti with cti | cti <;> rw [cti] <;> rfl

/-- Settles O3: each of the 256 values is counted, and each row reads by the bits its mask keeps. -/
theorem controlWordSelectsOneOfTwentyTwoOperations : Obligations.ControlWordSelectsOneOfTwentyTwoOperations := by
  refine ⟨rfl, by decide, fun c cw a r hr selected => ?_⟩
  obtain ⟨_, _, masked⟩ := KeyRow.selects_iff.mp selected
  have word := congrArg (BitVec.ofNat 8) masked
  rw [BitVec.ofNat_and, BitVec.ofNat_toNat, BitVec.setWidth_eq] at word
  rw [decode_wb_cw, decodeWB_row cw a r hr word]

/-! Every operation's word. -/

theorem readableByte_eq_false_iff {c : Config} {addr : NarrowAdr} :
    readableByte c addr = false ↔ (addr.toNat < c.offCtrl ∨ c.offCtrl + c.ctrlBytes ≤ addr.toNat) ∧
      addr.toNat ≠ c.offRxInfo ∧ addr.toNat ≠ c.offRxData ∧ addr.toNat ≠ c.offTxInfo := by
  simp only [readableByte, Bool.or_eq_false_iff, Option.isSome_eq_false_iff, Option.isNone_iff_eq_none,
    ctrlByteAt_eq_none_iff, decide_eq_false_iff_not]
  omega

theorem writableByte_eq_false_iff {c : Config} {addr : NarrowAdr} :
    writableByte c addr = false ↔ (addr.toNat < c.offCtrl ∨ c.offCtrl + c.ctrlBytes ≤ addr.toNat) ∧
      addr.toNat ≠ c.offTxData := by
  simp only [writableByte, Bool.or_eq_false_iff, Option.isSome_eq_false_iff, Option.isNone_iff_eq_none,
    ctrlByteAt_eq_none_iff, decide_eq_false_iff_not]
  omega

/-! The DEC operation by the address (R262). -/

theorem decodeDEC_mem {c : Config} {d : Request} (h : selMem c d.adr = true) : decodeDEC c d = .decMem d :=
  if_pos h

theorem decodeDEC_csr {c : Config} (hl : c.legal = true) {d : Request} (h : selCsr c d.adr = true) :
    decodeDEC c d = .decCsr d := by
  have notMem : ¬ selMem c d.adr = true := fun hm => by
    rw [selCsr_of_selMem hl hm] at h
    cases h
  rw [decodeDEC, if_neg notMem, if_pos h]

theorem decodeDEC_miss {c : Config} {d : Request} (h : decodeMiss c d.adr = true) : decodeDEC c d = .decMiss d := by
  simp only [decodeMiss, Bool.and_eq_true, Bool.not_eq_true'] at h
  simp [decodeDEC, h]

/-- Settles O1, format by format. The keys of REG are O5's, those of CSR and FIFO are accepted because the operands are in range,
and an address of the CSR range is none of the memory's; every other key is a number, whose fields evaluate. -/
theorem decodeInvertsEncode : Obligations.DecodeInvertsEncode := by
  intro c i hl wf
  have regs (data : Byte) := registerKeysSelectTheirOperations c { csrWData := data } hl
  cases i with
  | wbIdle | wbWait | wbRdClassic | wbRdConst | wbRdIncrLinear | wbRdIncrWrap4 | wbRdIncrWrap8 | wbRdIncrWrap16 | wbRdRsvd3
  | wbRdRsvd45 | wbRdRsvd6 | wbRdEob | wbWrClassic | wbWrConst | wbWrIncrLinear | wbWrIncrWrap4 | wbWrIncrWrap8
  | wbWrIncrWrap16 | wbWrRsvd3 | wbWrRsvd45 | wbWrRsvd6 | wbWrEob => exact decode_wb_fields (by decide)
  | mcIdle | mcLatch | mcRelease | mcBeat => exact decode_mc (by decide)
  | advLinear | advWrap4 | advWrap8 | advWrap16 | csrNop => rfl
  | brIdle | brLane0 | brLane1 | brLane2 | brLane3 | brCollect | brAck => exact decode_br (by decide)
  | csrRd => exact decode_csr_read wf
  | csrWr => exact decode_csr_write wf
  | ctrlRd j =>
    obtain ⟨ctrl, _⟩ := regs 0
    exact (ctrl j (of_decide_eq_true wf)).1
  | ctrlWr j data =>
    obtain ⟨ctrl, _⟩ := regs data
    exact (ctrl j (of_decide_eq_true wf)).2
  | rxInfoRd =>
    obtain ⟨_, rxInfo, _⟩ := regs 0
    exact rxInfo
  | rxDataRd =>
    obtain ⟨_, _, rxData, _⟩ := regs 0
    exact rxData
  | txInfoRd =>
    obtain ⟨_, _, _, txInfo, _⟩ := regs 0
    exact txInfo
  | txDataWr data =>
    obtain ⟨_, _, _, _, txData, _⟩ := regs data
    exact txData
  | regRdNone addr =>
    obtain ⟨_, _, _, _, _, unlisted⟩ := regs 0
    obtain ⟨inside, none⟩ := Bool.and_eq_true_iff.mp wf
    obtain ⟨noCtrl, noRxInfo, noRxData, noTxInfo⟩ := readableByte_eq_false_iff.mp (Bool.not_eq_true' _ |>.mp none)
    have key := (unlisted addr.toNat (of_decide_eq_true inside)).1 noCtrl noRxInfo noRxData noTxInfo
    rwa [BitVec.ofNat_toNat, BitVec.setWidth_eq] at key
  | regWrNone addr data =>
    obtain ⟨_, _, _, _, _, unlisted⟩ := regs data
    obtain ⟨inside, none⟩ := Bool.and_eq_true_iff.mp wf
    obtain ⟨noCtrl, noTxData⟩ := writableByte_eq_false_iff.mp (Bool.not_eq_true' _ |>.mp none)
    have key := (unlisted addr.toNat (of_decide_eq_true inside)).2 noCtrl noTxData
    rwa [BitVec.ofNat_toNat, BitVec.setWidth_eq] at key
  | fifoNop | fifoPop => exact decode_fifo (by decide) nofun
  | fifoPush | fifoPushPop => exact decode_fifo (by decide) fun _ => wf
  | rxIdle | rxAccept | rxRefuse => exact decode_ux_rx (by decide) rfl
  | txIdle rRdy => cases rRdy <;> exact decode_ux_tx (by decide) rfl
  | txPull | txEmpty => exact decode_ux_tx (by decide) rfl
  | decMem d => exact (decode_dec c d).trans (congrArg _ (decodeDEC_mem wf))
  | decCsr d => exact (decode_dec c d).trans (congrArg _ (decodeDEC_csr hl wf))
  | decMiss d => exact (decode_dec c d).trans (congrArg _ (decodeDEC_miss wf))
  | arbHold0 | arbHold1 | arbSwitch01 | arbSwitch10 | arbPark0 | arbPark1 => exact decode_arb (by decide)

/-! The refusals (R90, R105; log entries 11, 18). -/

/-- Settles O7, format by format: past the width check only CSR and FIFO refuse, each by the check that names the reason. -/
theorem decoderRefusesByName : Obligations.DecoderRefusesByName := by
  refine ⟨?named, fun _ _ => rfl, fun c a outside => ?outside, fun c a tx wide => ?entry, fun c f key a wide => ?wide⟩
  case named =>
    rintro c ⟨fmt, key, a⟩ e h
    unfold decode at h
    split at h
    case isTrue wide =>
      cases h
      exact .inl ⟨wide, rfl⟩
    case isFalse narrow =>
      cases fmt with
      | wb | mc | adv | br | reg | dec | arb => cases h
      | ux => cases hf : a.fifo <;> simp [hf] at h
      | csr =>
        have width : key < 4 := Nat.not_le.mp narrow
        dsimp only at h
        split_ifs at h with both none outside
        · cases h
          exact .inr (.inl ⟨rfl, both, rfl⟩)
        · cases h
          have strobe : key = 0b10 ∨ key = 0b01 := by omega
          have beyond : c.csrSize ≤ a.csrAddr.toNat := by simpa [inRegion] using outside
          exact .inr (.inr (.inl ⟨rfl, strobe, beyond, rfl⟩))
      | fifo =>
        have pushes : ∀ key < 4, key.testBit 1 = true → key = 0b10 ∨ key = 0b11 := by decide
        dsimp only at h
        split_ifs at h with entry
        cases h
        obtain ⟨tx, push, wide⟩ := entry
        exact .inr (.inr (.inr ⟨rfl, pushes key (Nat.not_le.mp narrow) push, tx, wide, rfl⟩))
  case outside =>
    have refused : inRegion c a.csrAddr = false := decide_eq_false (Nat.not_lt.mpr outside)
    simp [decode, Format.keyWidth, refused]
  case entry => exact ⟨decode_fifo_wide (by decide) tx rfl wide, decode_fifo_wide (by decide) tx rfl wide⟩
  case wide => exact if_pos wide

/-! The clock cycle's operations (R90, R303). -/

/-- A transceiver key holds the side's two signals (R90, R103). -/
theorem ux_key (rdy fifoRdy : Bool) :
    2 * rdy.toNat + fifoRdy.toNat < 2 ^ 2 ∧ (2 * rdy.toNat + fifoRdy.toNat).testBit 1 = rdy ∧
      (2 * rdy.toNat + fifoRdy.toNat).testBit 0 = fifoRdy := by
  revert rdy fifoRdy
  decide

/-- Settles O8: the four words are those of `waitingOp`, `grantedOp`, `rxOp` and `txOp`, which the step runs. -/
theorem stepRunsTheDecodedOperations : Obligations.StepRunsTheDecodedOperations := by
  intro s waiting granted rx tx hl g row hwaiting hgranted hrx htx
  obtain ⟨rxWidth, rxRdy, wRdy⟩ := ux_key row.x.rxRdy s.rxWriteReady
  obtain ⟨txWidth, txRdy, rRdy⟩ := ux_key row.x.txRdy s.txReadReady
  rw [decode_wb_cw] at hwaiting hgranted
  rw [decode_ux_rx rxWidth rfl, rxRdy, wRdy] at hrx
  rw [decode_ux_tx txWidth rfl, txRdy, rRdy] at htx
  obtain rfl : s.load.waitingOp = waiting := Except.ok.inj hwaiting
  obtain rfl : s.load.grantedOp = granted := Except.ok.inj hgranted
  obtain rfl : s.load.rxOp = rx := Except.ok.inj hrx
  obtain rfl : s.load.txOp = tx := Except.ok.inj htx
  exact if_pos hl

/-- Settles O6 by evaluating the decoder. -/
theorem specWordsDecodeAsNamed : Obligations.SpecWordsDecodeAsNamed := by
  unfold Obligations.SpecWordsDecodeAsNamed
  decide

end Sys2Proof.Machine

/-! What every operation keeps, the reference master's beats (40_bus_ops.md R122) and the narrow bus's address (30_encoding.md
R101). -/

namespace Sys2Proof.Machine

/-! No operation touches the configuration, the inputs or time (R105, R320). -/

theorem State.reveal_context (s : State) (f : FifoId) (old : Vis) : sameContext s (s.reveal f old) := by
  cases f <;> exact ⟨rfl, rfl, rfl, rfl⟩

theorem State.push_context (s : State) (f : FifoId) (wData : RxEntry) : sameContext s (s.push f wData) := by
  cases f <;> exact ⟨rfl, rfl, rfl, rfl⟩

theorem State.pop_context (s : State) (f : FifoId) : sameContext s (s.pop f) := by
  cases f <;> exact ⟨rfl, rfl, rfl, rfl⟩

/-- Settles O56: each arm of `exec` answers the state its shared operation leaves, and that operation keeps the context. -/
theorem everyOperationCompletes : Obligations.EveryOperationCompletes := by
  intro i s
  cases i with
  | wbIdle | wbWait | wbRdClassic | wbRdConst | wbRdIncrLinear | wbRdIncrWrap4 | wbRdIncrWrap8 | wbRdIncrWrap16 | wbRdRsvd3
  | wbRdRsvd45 | wbRdRsvd6 | wbRdEob | wbWrClassic | wbWrConst | wbWrIncrLinear | wbWrIncrWrap4 | wbWrIncrWrap8
  | wbWrIncrWrap16 | wbWrRsvd3 | wbWrRsvd45 | wbWrRsvd6 | wbWrEob => exact ⟨_, rfl, s.portCycle_context _ _⟩
  | mcBeat we sel datW cti bte => exact ⟨_, rfl, s.mcBeat_context we sel datW cti bte⟩
  | decMem d => exact ⟨_, rfl, s.routeMem_context d⟩
  | decCsr d => exact ⟨_, rfl, s.routeCsr_context d⟩
  | decMiss d => exact ⟨_, rfl, s.routeMiss_context d⟩
  | brLane0 adr sel we datW => exact ⟨_, rfl, s.brLane0_context adr sel we datW⟩
  | brLane1 adr sel we datW => exact ⟨_, rfl, s.brLane1_context adr sel we datW⟩
  | brLane2 adr sel we datW => exact ⟨_, rfl, s.brLane2_context adr sel we datW⟩
  | brLane3 adr sel we datW => exact ⟨_, rfl, s.brLane3_context adr sel we datW⟩
  | csrRd addr => exact ⟨_, rfl, s.csrRead_context addr⟩
  | csrWr addr data => exact ⟨_, rfl, s.csrWrite_context addr data⟩
  | rxDataRd => exact ⟨_, rfl, s.readRxData_context⟩
  | txDataWr data => exact ⟨_, rfl, s.writeTxData_context data⟩
  | fifoNop f => exact ⟨_, rfl, s.reveal_context f _⟩
  | fifoPush f w => exact ⟨_, rfl, sameContext_trans (s.push_context f w) (State.reveal_context _ f _)⟩
  | fifoPop f => exact ⟨_, rfl, sameContext_trans (s.pop_context f) (State.reveal_context _ f _)⟩
  | fifoPushPop f w =>
    exact ⟨_, rfl, sameContext_trans (sameContext_trans (s.pop_context f) (State.push_context _ f w))
      (State.reveal_context _ f _)⟩
  -- Every other operation is a chain of record updates of elements and signals.
  | mcIdle | mcLatch | mcRelease | advLinear | advWrap4 | advWrap8 | advWrap16 | brIdle | brCollect | brAck | csrNop
  | ctrlRd | ctrlWr | rxInfoRd | txInfoRd | regRdNone | regWrNone | rxIdle | rxAccept | rxRefuse | txIdle | txPull | txEmpty
  | arbHold0 | arbHold1 | arbSwitch01 | arbSwitch10 | arbPark0 | arbPark1 => exact ⟨_, rfl, rfl, rfl, rfl, rfl⟩

/-! The reference master (R110, R122). -/

/-- A burst's control word has `cyc` and `stb`, and `we` as its statement writes or not (R93, R110). -/
theorem burstWord_fields (we : Bool) (bte : BitVec 2) (count n : Nat) :
    (burstWord we bte count n).getLsbD 7 = true ∧ (burstWord we bte count n).getLsbD 6 = true ∧
      (burstWord we bte count n).getLsbD 5 = we := by
  simp only [burstWord, BitVec.getLsbD_append]
  cases we <;> exact ⟨rfl, rfl, rfl⟩

/-- A bracket's request reads `cyc`, `stb` and `we` off its control word (R93). -/
theorem Bracket.request_of_cw {b : Bracket} {cw : BitVec 8} {we : Bool} (h : b.cw = cw)
    (fields : cw.getLsbD 7 = true ∧ cw.getLsbD 6 = true ∧ cw.getLsbD 5 = we) :
    b.request.cyc = true ∧ b.request.stb = true ∧ b.request.we = we := by
  subst h
  exact fields

/-- The master's clock cycle (R110): an idle port, after which statements may be dropped, or a beat of the first statement,
which writes iff the statement does and takes its answer. -/
theorem RefMaster.idle_or_beat (r : RefMaster) (resp : Response) :
    (r.drive = {} ∧ (r.observe resp).todo <:+ r.todo) ∨
    ∃ stmt rest n ok, r.todo = stmt :: rest ∧ r.observe resp = r.answered rest n resp ok ∧
      r.drive.request.cyc = true ∧ r.drive.request.stb = true ∧ r.drive.request.we = !stmt.readOnly := by
  obtain ⟨todo, count, gap, results⟩ := r
  cases gap with
  | true => exact .inl ⟨rfl, List.suffix_rfl⟩
  | false =>
    cases todo with
    | nil => exact .inl ⟨rfl, List.suffix_rfl⟩
    | cons stmt rest =>
      cases stmt with
      | idle n =>
        refine .inl ⟨rfl, ?_⟩
        by_cases more : count + 1 < n
        · simp [RefMaster.observe, more]
        · simp [RefMaster.observe, more]
      | rd addr sel =>
        exact .inr ⟨_, rest, 1, _, rfl, rfl, Bracket.request_of_cw (cw := 0xC0) (we := false) rfl (by decide)⟩
      | wr addr data sel =>
        exact .inr ⟨_, rest, 1, _, rfl, rfl, Bracket.request_of_cw (cw := 0xE0) (we := true) rfl (by decide)⟩
      | rdb addr bte n => exact .inr ⟨_, rest, n, _, rfl, rfl, burstWord_fields false bte count n⟩
      | wrb addr bte data => exact .inr ⟨_, rest, data.length, _, rfl, rfl, burstWord_fields true bte count data.length⟩

section
variable (r : RefMaster) (rest : List Stmt) (n : Nat) (resp : Response) (ok : Result)

/-- A beat without a response leaves the master as it stood. -/
theorem RefMaster.answered_none (ack : resp.ack = false) (err : resp.err = false) : r.answered rest n resp ok = r := by
  simp [RefMaster.answered, ack, err]

theorem RefMaster.answered_todo {stmt : Stmt} (h : r.todo = stmt :: rest) : (r.answered rest n resp ok).todo <:+ r.todo := by
  have dropped : rest <:+ r.todo := h ▸ List.suffix_cons stmt rest
  unfold RefMaster.answered
  split_ifs
  · exact dropped
  · exact List.suffix_rfl
  · exact dropped
  · exact List.suffix_rfl

end

/-- What is left of a program that never writes never writes. -/
theorem all_readOnly_of_suffix {left todo : List Stmt} (h : left <:+ todo) (readOnly : todo.all Stmt.readOnly = true) :
    left.all Stmt.readOnly = true :=
  List.all_eq_true.mpr fun stmt mem => List.all_eq_true.mp readOnly stmt (h.subset mem)

/-- Settles O60: an unanswered beat leaves the master as it stood, so it drives the same again; its program only gets shorter. -/
theorem referenceMasterHoldsItsBeat : Obligations.ReferenceMasterHoldsItsBeat := by
  intro r resp
  rcases r.idle_or_beat resp with ⟨idle, todo⟩ | ⟨stmt, rest, n, ok, first, observed, cyc, stb, we⟩
  · rw [idle]
    exact ⟨nofun, nofun, fun readOnly => ⟨rfl, all_readOnly_of_suffix todo readOnly⟩⟩
  · refine ⟨fun _ => cyc, fun _ ack err => ?_, fun readOnly => ⟨?_, ?_⟩⟩
    · rw [observed, r.answered_none rest n resp ok ack err]
    · have reads : stmt.readOnly = true := List.all_eq_true.mp readOnly stmt (by simp [first])
      rw [portNeverWrites, we, reads]
      rfl
    · rw [observed]
      exact all_readOnly_of_suffix (r.answered_todo rest n resp ok first) readOnly

/-! The narrow address (R101). -/

section
variable {c : Config} (hl : c.legal = true)
include hl

/-- The region is a power of two of words, of four bytes each (R6, R7). -/
theorem Config.csrSize_eq_words : c.csrSize = 4 * 2 ^ (c.csrAW - 2) := by
  rw [Config.csrSize_eq_two_pow hl, show 4 = 2 ^ 2 from rfl, ← Nat.pow_add, Nat.add_sub_cancel' (Config.two_le_csrAW hl)]

theorem narrowAddr_toNat (adr : Adr) {k : Nat} (hk : k < 4) :
    (narrowAddr c adr k).toNat = adr.toNat % 2 ^ (c.csrAW - 2) * 4 + k := by
  have size := Config.csrSize_eq_words hl
  have word : adr.toNat % 2 ^ (c.csrAW - 2) < 2 ^ (c.csrAW - 2) := Nat.mod_lt _ (Nat.two_pow_pos _)
  rw [narrowAddr, Nat.mod_eq_of_lt hk, toNat_narrow hl (by omega)]

/-- The word address and the lane are the two parts of the byte address. -/
theorem narrowAddr_eq_byte_mod (adr : Adr) {k : Nat} (hk : k < 4) :
    (narrowAddr c adr k).toNat = (4 * adr.toNat + k) % c.csrSize := by
  have lane : (4 * adr.toNat + k) % 4 = k := by omega
  have word : (4 * adr.toNat + k) / 4 = adr.toNat := by omega
  rw [narrowAddr_toNat hl adr hk, Config.csrSize_eq_words hl, Nat.mod_mul, lane, word]
  omega

/-- Inside the CSR region the byte address is the base and the offset: the base is aligned to the region's size (R7, R71). -/
theorem csrBase_add_narrowAddr {adr : Adr} {k : Nat} (hk : k < 4) (hsel : selCsr c adr = true) :
    c.csrBase + (narrowAddr c adr k).toNat = 4 * adr.toNat + k := by
  obtain ⟨_, _, _, _, _, _, _, aligned, _⟩ := (Config.legal_iff_checks c).mp hl
  obtain ⟨low, high⟩ := (selCsr_iff hl adr).mp hsel
  have size := Config.csrSize_eq_words hl
  obtain ⟨x, hx⟩ : ∃ x, 4 * adr.toNat + k = c.csrBase + x := ⟨_, (Nat.add_sub_cancel' (by omega)).symm⟩
  have wordAligned : c.csrBase % 4 = 0 := Nat.mod_eq_zero_of_dvd
    ((Dvd.intro _ size.symm).trans (Nat.dvd_of_mod_eq_zero aligned))
  rw [narrowAddr_eq_byte_mod hl adr hk, hx, Nat.add_mod, aligned, Nat.zero_add, Nat.mod_mod, Nat.mod_eq_of_lt (by omega)]

end

/-! The Bridge's port and the narrow bus after a clock cycle (R192). -/

/-- A register read drives no signal of the Bridge. -/
theorem State.regRead_q (s : State) (addr : NarrowAdr) : (s.regRead addr).wires.q = s.wires.q := by
  cases h : ctrlByteAt s.cfg addr with
  | some j => rw [State.regRead_ctrl h]; rfl
  | none =>
    have data : s.readRxData.wires.q = s.wires.q := by
      unfold State.readRxData
      split <;> rfl
    rw [State.regRead_noCtrl h]
    split_ifs
    · rfl
    · exact data
    · rfl
    · rfl

/-- A register write drives no signal of the Bridge. -/
theorem State.regWrite_q (s : State) (addr : NarrowAdr) (data : Byte) : (s.regWrite addr data).wires.q = s.wires.q := by
  cases h : ctrlByteAt s.cfg addr with
  | some j => rw [State.regWrite_ctrl data h]; rfl
  | none =>
    rw [State.regWrite_noCtrl data h]
    unfold State.writeTxData
    split_ifs <;> rfl

/-- A lane's narrow beat leaves the Bridge's port as it is driven (R192). -/
theorem State.issueLane_q (s : State) (k : Nat) (adr : Adr) (sel : BitVec 4) (we : Bool) (datW : Word) :
    (s.issueLane k adr sel we datW).wires.q = s.wires.q := by
  rcases s.issueLane_cases k adr sel we datW with ⟨_, _, h⟩ | ⟨_, _, h⟩ | ⟨_, h⟩ <;> rw [h]
  · exact State.regWrite_q _ _ _
  · exact State.regRead_q _ _
  · rfl

/-- The Bridge's port shows the assembly register, with the acknowledge in the beat in which `br_ack` is set (R192). -/
theorem State.brPerform_q (s : State) (beat : Bool) (b : Request) :
    (s.brPerform beat b).wires.q = { ack := beat && s.el.brAck, datR := s.el.brDat } := by
  rcases s.brPerform_cases beat b with ⟨hb, h⟩ | ⟨hb, ha, h⟩ | ⟨hb, ha, _, h⟩ | ⟨hb, ha, _, h⟩ | ⟨hb, ha, _, h⟩ |
    ⟨hb, ha, _, h⟩ | ⟨hb, ha, _, h⟩ <;> rw [h, hb]
  · rfl
  · rw [ha]
    rfl
  · rw [ha]
    exact State.issueLane_q (s.driveBridgePort false) 0 b.adr b.sel b.we b.datW
  · rw [ha]
    exact State.issueLane_q ((s.driveBridgePort false).collectLane 0) 1 b.adr b.sel b.we b.datW
  · rw [ha]
    exact State.issueLane_q ((s.driveBridgePort false).collectLane 1) 2 b.adr b.sel b.we b.datW
  · rw [ha]
    exact State.issueLane_q ((s.driveBridgePort false).collectLane 2) 3 b.adr b.sel b.we b.datW
  · rw [ha]
    rfl

/-- What the Decoder leaves on the narrow bus and the Bridge's port is what the Bridge drives, the beat being the one its select
lets through (R192, R266). -/
theorem State.decPerform_bridge {s : State} (hl : s.cfg.legal = true) (d : Request) :
    (s.decPerform d).wires.narrow = (s.brPerform (strobed d && selCsr s.cfg d.adr) d).wires.narrow ∧
      (s.decPerform d).wires.q = (s.brPerform (strobed d && selCsr s.cfg d.adr) d).wires.q := by
  have slaves (mcBeat brBeat : Bool) :
      ((s.mcPerform mcBeat d).brPerform brBeat d).wires.narrow = (s.brPerform brBeat d).wires.narrow ∧
        ((s.mcPerform mcBeat d).brPerform brBeat d).wires.q = (s.brPerform brBeat d).wires.q := by
    rw [State.mcPerform_eq_besideBridge, State.brPerform_besideBridge]
    exact ⟨rfl, rfl⟩
  rcases s.decPerform_cases d with ⟨hm, h⟩ | ⟨_, hc, h⟩ | ⟨_, hc, h⟩
  · rw [h, selCsr_of_selMem hl hm, Bool.and_false]
    exact slaves (strobed d) false
  · rw [h, hc, Bool.and_true]
    exact slaves false (strobed d)
  · rw [h, hc, Bool.and_false]
    unfold State.routeMiss
    dsimp only
    split_ifs <;> exact slaves false false

/-- The receive side drives no signal of the Bridge. -/
theorem exec_decodeRX_bridge {s t : State} {rdy wRdy : Bool} {data : Byte} {ovf ferr perr : Bool}
    (h : exec (decodeRX rdy wRdy data ovf ferr perr) s = .next t) :
    t.wires.narrow = s.wires.narrow ∧ t.wires.q = s.wires.q := by
  cases rdy <;> cases wRdy <;> cases h <;> exact ⟨rfl, rfl⟩

/-- The transmit side drives no signal of the Bridge. -/
theorem exec_decodeTX_bridge {s t : State} {rdy rRdy : Bool} (h : exec (decodeTX rdy rRdy) s = .next t) :
    t.wires.narrow = s.wires.narrow ∧ t.wires.q = s.wires.q := by
  cases rdy <;> cases rRdy <;> cases h <;> exact ⟨rfl, rfl⟩

/-- The response and the Arbiter drive no internal signal: the ports' operations leave the Decoder's (R282, R283). -/
theorem State.served_wires (s : State) :
    s.served.wires = ((s.wait s.el.grant.other).decPerform s.downstream).wires := by
  have port (u : State) (m : Master) (v : Response) : (u.driveMaster m v).wires = u.wires := by cases m <;> rfl
  rw [State.served_eq, (State.arbPerform_signals _ _ _).2, State.respond, port, port]

/-- What a step leaves on the narrow bus and the Bridge's port: the downstream request's signals of R192. -/
theorem step_bridge {s t : State} (h : step s = .next t) :
    t.wires.narrow = narrowBeat s.cfg s.load.narrowActive s.load.laneNow s.load.downstream ∧
      t.wires.q = { ack := s.load.brBeatNow && s.el.brAck, datR := s.el.brDat } := by
  have hl : s.load.cfg.legal = true := (step_inversion h).1
  obtain ⟨a, b, c, d, ha, hb, hc, hd, hstep⟩ := step_of_legal (s := s) hl
  obtain rfl : a = s.load.wait s.load.el.grant.other := by injection ha.symm.trans (exec_waitingOp s.load)
  obtain rfl : b = s.load.served := by injection hb.symm.trans (exec_grantedOp s.load)
  obtain rfl : t = d.edge s.load := by injection h.symm.trans hstep
  obtain ⟨rxNarrow, rxQ⟩ := exec_decodeRX_bridge hc
  obtain ⟨txNarrow, txQ⟩ := exec_decodeTX_bridge hd
  have cfg : (s.load.wait s.load.el.grant.other).cfg = s.load.cfg := State.wait_cfg _ _
  have el : (s.load.wait s.load.el.grant.other).el = s.load.el := State.wait_el _ _
  obtain ⟨narrow, q⟩ := State.decPerform_bridge (cfg ▸ hl) s.load.downstream
  rw [← State.served_wires, State.brPerform_narrow, cfg, el] at narrow
  rw [← State.served_wires, State.brPerform_q, cfg, el] at q
  exact ⟨(txNarrow.trans rxNarrow).trans narrow, (txQ.trans rxQ).trans q⟩

/-- Settles O26: the arithmetic of R101 in a legal configuration, and R192's signals of the downstream request, which is the
granted port's. -/
theorem narrowAddressIsTheByteOffset : Obligations.NarrowAddressIsTheByteOffset := by
  refine ⟨fun c adr k hl hk => ⟨narrowAddr_toNat hl adr hk, ?_, csrBase_add_narrowAddr hl hk⟩, fun s t hstep => ?_⟩
  · rw [narrowAddr_eq_byte_mod hl adr hk, Config.csrSize_eq_two_pow hl]
  · obtain ⟨narrow, q⟩ := step_bridge hstep
    rw [Bool.and_comm] at q
    rw [State.narrowActive, State.brBeatNow, State.load_downstream] at narrow
    rw [State.brBeatNow, State.load_downstream] at q
    exact ⟨narrow, q⟩

end Sys2Proof.Machine

/-! What a master port does to the fabric in one clock cycle (40_bus_ops.md R123 to R146), and a read burst of the memory
(R175). -/

namespace Sys2Proof.Machine

/-! The burst address generator by its mask formula (R165). -/

/-- A wrapping step replaces the bits of the window by those of the sum (R165, R170). -/
theorem nextWrap_eq_masked (c : Config) (w : Nat) (a : Index) :
    nextWrap c w a =
      (a &&& ~~~BitVec.ofNat 30 (2 ^ min w c.memAW - 1)) ||| ((a + 1#30) &&& BitVec.ofNat 30 (2 ^ min w c.memAW - 1)) := by
  unfold nextWrap
  generalize min w c.memAW = k
  have window : (a.toNat + 1) % 2 ^ k < 2 ^ k := Nat.mod_lt _ (Nat.two_pow_pos k)
  refine BitVec.eq_of_getLsbD_eq fun i hi => ?_
  have sum : (a + 1#30).getLsbD i = (a.toNat + 1).testBit i := by
    rw [BitVec.getLsbD, BitVec.toNat_add, Nat.testBit_mod_two_pow, decide_eq_true hi, Bool.true_and]
    rfl
  rw [BitVec.getLsbD_or, BitVec.getLsbD_and, BitVec.getLsbD_and, BitVec.getLsbD_not, sum, BitVec.getLsbD_ofNat,
    BitVec.getLsbD_ofNat, Nat.testBit_two_pow_sub_one, Nat.mul_comm, Nat.testBit_two_pow_mul_add _ window]
  by_cases hk : i < k
  · simp [hk, hi, Nat.testBit_mod_two_pow]
  · simp [hk, hi, Nat.testBit_div_two_pow, Nat.sub_add_cancel (Nat.le_of_not_lt hk), BitVec.getLsbD]

theorem flatAdvance_linear {c : Config} {a : Index} {cti : BitVec 3} {bte : BitVec 2} (h : advKey cti bte = 0#2) :
    flatAdvance c a cti bte = nextLinear c a := if_pos h

theorem flatAdvance_wrap {c : Config} {a : Index} {cti : BitVec 3} {bte : BitVec 2} (h : advKey cti bte ≠ 0#2) :
    flatAdvance c a cti bte = nextWrap c ((advKey cti bte).toNat + 1) a :=
  (if_neg h).trans (nextWrap_eq_masked c _ a).symm

/-- Advance is the mask formula: W = 0, 2, 3, 4 by VK (R165). -/
theorem State.advance_mcAdr (s : State) (cti : BitVec 3) (bte : BitVec 2) :
    (s.advance cti bte).el.mcAdr = flatAdvance s.cfg s.el.mcAdr cti bte := by
  rcases s.advance_cases cti bte with ⟨vk, h⟩ | ⟨vk, h⟩ | ⟨vk, h⟩ | ⟨vk, h⟩
  · rw [h, flatAdvance_linear vk]
    rfl
  · rw [h, flatAdvance_wrap (by rw [vk]; decide), vk]
    rfl
  · rw [h, flatAdvance_wrap (by rw [vk]; decide), vk]
    rfl
  · rw [h, flatAdvance_wrap (by rw [vk]; decide), vk]
    rfl

/-! The record after the Decoder's operation, an equation per case (R263 to R265). -/

/-- Without a beat the controller is in IDLE afterwards, and keeps the rest (R163, R164). -/
theorem State.mcPerform_no_beat_el (s : State) (b : Request) :
    (s.mcPerform false b).el = { s.el with mcState := .idle } := by
  rcases s.mcPerform_cases false b with ⟨hidle, _, h⟩ | ⟨_, hbeat, _⟩ | ⟨_, _, h⟩ | ⟨_, hbeat, _⟩
  · rw [h, State.mcIdle_el, ← hidle]
  · cases hbeat
  · rw [h, State.mcRelease_el]
  · cases hbeat

theorem State.brPerform_no_beat (s : State) (b : Request) : s.brPerform false b = s.brIdle b.adr b.datW := rfl

section
variable {s : State} {b : Request}

/-- A request to the memory: the controller's operation, and BR.IDLE (R263). -/
theorem State.decPerform_el_memory (hsel : selMem s.cfg b.adr = true) :
    (s.decPerform b).el = { (s.mcPerform (strobed b) b).el with brCnt := 0, brAck := false, csrRdata := 0 } := by
  rw [State.decPerform, if_pos hsel, State.routeMem_el, State.brPerform_no_beat, State.brIdle_el]

/-- A request to the register region: the Bridge's operation; the controller releases or idles (R264). -/
theorem State.decPerform_el_registers (hmem : selMem s.cfg b.adr = false) (hsel : selCsr s.cfg b.adr = true) :
    (s.decPerform b).el = { (s.brPerform (strobed b) b).el with mcState := .idle } := by
  obtain ⟨grant, _, mcAdr, mem⟩ := s.brPerform_outside (strobed b) b
  rw [State.decPerform, hmem, if_neg Bool.false_ne_true, if_pos hsel, State.routeCsr_el, State.mcPerform_eq_besideBridge,
    State.brPerform_besideBridge, State.mcPerform_no_beat_el, State.besideBridge, ← grant, ← mcAdr, ← mem]

/-- Without a beat both slaves come to rest, whatever the address (R263 to R265). -/
theorem State.decPerform_el_no_beat (h : strobed b = false) :
    (s.decPerform b).el = { s.el with mcState := .idle, brCnt := 0, brAck := false, csrRdata := 0 } := by
  have rest : ((s.mcPerform false b).brPerform false b).el =
      { s.el with mcState := .idle, brCnt := 0, brAck := false, csrRdata := 0 } := by
    rw [State.brPerform_no_beat, State.brIdle_el, State.mcPerform_no_beat_el]
  rcases s.decPerform_cases b with ⟨_, hroute⟩ | ⟨_, _, hroute⟩ | ⟨_, _, hroute⟩ <;> rw [hroute]
  · rw [State.routeMem_el, h, rest]
  · rw [State.routeCsr_el, h, rest]
  · rw [State.routeMiss_el, rest]

end

/-- The Decoder's operation leaves the grant to the Arbiter (R84). -/
theorem State.decPerform_grant (s : State) (b : Request) : (s.decPerform b).el.grant = s.el.grant := by
  have slaves (mcBeat brBeat : Bool) : ((s.mcPerform mcBeat b).brPerform brBeat b).el.grant = s.el.grant := by
    obtain ⟨grant, _⟩ := (s.mcPerform mcBeat b).brPerform_outside brBeat b
    rw [grant, State.mcPerform_el]
  rcases s.decPerform_cases b with ⟨_, h⟩ | ⟨_, _, h⟩ | ⟨_, _, h⟩ <;> rw [h]
  · exact slaves _ _
  · exact slaves _ _
  · rw [State.routeMiss_el]
    exact slaves _ _

/-! The Decoder's response (R267). -/

/-- DEC.CSR answers with the Bridge's port (R264, R267). -/
theorem State.routeCsr_response (s : State) (b : Request) :
    (s.routeCsr b).wires.d = { ack := strobed b && s.el.brAck, err := false, datR := s.el.brDat } := by
  unfold State.routeCsr
  rw [State.driveD_d, State.brPerform_q, State.mcPerform_no_beat_el]

/-- DEC.MISS answers a beat with BusError and no data (R265, R321). -/
theorem State.routeMiss_response (s : State) (b : Request) :
    (s.routeMiss b).wires.d = { ack := false, err := strobed b, datR := 0 } := by
  unfold State.routeMiss
  cases strobed b <;> rfl

/-- The Decoder answers with the port of the slave the address selects, and on a miss with BusError (R267). -/
theorem State.decPerform_response (s : State) (b : Request) :
    (s.decPerform b).wires.d =
      if selMem s.cfg b.adr then
        { ack := strobed b && decide (s.el.mcState = .cycle), err := false, datR := s.el.mem.readWord s.el.mcAdr.toNat }
      else if selCsr s.cfg b.adr then { ack := strobed b && s.el.brAck, err := false, datR := s.el.brDat }
      else { ack := false, err := strobed b, datR := 0 } := by
  unfold State.decPerform
  split_ifs
  · exact s.routeMem_response b
  · exact s.routeCsr_response b
  · exact s.routeMiss_response b

/-- The Decoder never drives `ack` and `err` together, and drives either only for a beat, `err` only on a miss (R268, R326). -/
theorem State.decPerform_response_exclusive (s : State) (b : Request) :
    ¬ ((s.decPerform b).wires.d.ack = true ∧ (s.decPerform b).wires.d.err = true) ∧
      ((s.decPerform b).wires.d.ack = true ∨ (s.decPerform b).wires.d.err = true → strobed b = true) ∧
      ((s.decPerform b).wires.d.err = true → selMem s.cfg b.adr = false ∧ selCsr s.cfg b.adr = false) := by
  rw [State.decPerform_response]
  split_ifs with hmem hcsr
  · simp +contextual
  · simp +contextual
  · exact ⟨by simp, by simp, fun _ => ⟨Bool.eq_false_iff.mpr hmem, Bool.eq_false_iff.mpr hcsr⟩⟩

/-- A port without a beat gets no response (R268). -/
theorem State.decPerform_response_no_beat (s : State) {b : Request} (h : strobed b = false) :
    (s.decPerform b).wires.d.ack = false ∧ (s.decPerform b).wires.d.err = false := by
  rw [State.decPerform_response, h]
  split_ifs <;> exact ⟨rfl, rfl⟩

/-! The granted port's clock cycle (R123, R281 to R283). -/

/-- The grant after a clock cycle in which its holder `m` presents `cyc` and the other port `otherCyc` (R283). -/
def grantAfter (m : Master) (cyc otherCyc : Bool) : Master :=
  if cyc then m else if otherCyc then m.other else m

@[simp] theorem grantAfter_held (m : Master) (otherCyc : Bool) : grantAfter m true otherCyc = m := rfl

theorem State.arbPerform_grant_m0 {s : State} (hg : s.el.grant = .m0) (cyc1 cyc0 : Bool) :
    (s.arbPerform cyc1 cyc0).el.grant = grantAfter .m0 cyc0 cyc1 := by
  unfold State.arbPerform
  rw [hg]
  cases cyc1 <;> cases cyc0 <;> rfl

theorem State.arbPerform_grant_m1 {s : State} (hg : s.el.grant = .m1) (cyc1 cyc0 : Bool) :
    (s.arbPerform cyc1 cyc0).el.grant = grantAfter .m1 cyc1 cyc0 := by
  unfold State.arbPerform
  rw [hg]
  cases cyc1 <;> cases cyc0 <;> rfl

/-- The Arbiter's operation of a clock cycle, with the other port's `cyc` taken from the inputs (R283). -/
theorem State.arbitrate_el {s : State} {m : Master} (hg : s.el.grant = m) (cyc : Bool) :
    (s.arbitrate m cyc).el = { s.el with grant := grantAfter m cyc (portRequest s.inp m.other).cyc } := by
  cases m with
  | m0 => rw [State.arbitrate, State.arbPerform_el, State.arbPerform_grant_m0 hg]; rfl
  | m1 => rw [State.arbitrate, State.arbPerform_el, State.arbPerform_grant_m1 hg]; rfl

theorem State.arbitrate_out (s : State) (m : Master) (cyc : Bool) : (s.arbitrate m cyc).out = s.out := by
  cases m
  · exact (s.arbPerform_signals _ _).1
  · exact (s.arbPerform_signals _ _).1

/-- What the clock cycle of the granted port `m` with request `b` leaves of state `s`: the Decoder's response on its own lines,
`dat_r` alone on the other port's, the record as the Decoder's operation leaves it, with the Arbiter's grant. -/
structure GrantedCycle (s : State) (m : Master) (b : Request) (t : State) : Prop where
  context : sameContext s t
  response : t.out.master m = (s.decPerform b).wires.d
  otherResponse : t.out.master m.other = { ack := false, err := false, datR := (s.decPerform b).wires.d.datR }
  el : t.el = { (s.decPerform b).el with grant := grantAfter m b.cyc (portRequest s.inp m.other).cyc }

theorem State.portCycle_granted {s : State} {m : Master} (hg : s.el.grant = m) (b : Request) :
    GrantedCycle s m b (s.portCycle m b) := by
  have served : s.portCycle m b = ((s.decPerform b).respond m).arbitrate m b.cyc := if_pos hg
  have grant : ((s.decPerform b).respond m).el.grant = m := by rw [State.respond_el, State.decPerform_grant, hg]
  obtain ⟨_, _, inp, _⟩ := sameContext_trans (s.decPerform_context b) (State.respond_context _ m)
  constructor
  · exact s.portCycle_context m b
  · rw [served, State.arbitrate_out, State.respond, State.driveMaster_other, State.driveMaster_self]
  · rw [served, State.arbitrate_out, State.respond, State.driveMaster_self]
  · rw [served, State.arbitrate_el grant, inp, State.respond_el]

section
variable {s t : State} {m : Master} {b : Request} (h : GrantedCycle s m b t)
include h

/-- The port that is not granted sees no response (R124). -/
theorem GrantedCycle.other_silent : (t.out.master m.other).ack = false ∧ (t.out.master m.other).err = false := by
  rw [h.otherResponse]
  exact ⟨rfl, rfl⟩

/-- A port without a beat sees no response (R125, R126). -/
theorem GrantedCycle.silent_without_beat (hb : strobed b = false) :
    (t.out.master m).ack = false ∧ (t.out.master m).err = false := by
  rw [h.response]
  exact s.decPerform_response_no_beat hb

/-- A port whose request selects the memory sees the controller's port (R263). -/
theorem GrantedCycle.memory_response (hsel : selMem s.cfg b.adr = true) :
    t.out.master m =
      { ack := strobed b && decide (s.el.mcState = .cycle), err := false, datR := s.el.mem.readWord s.el.mcAdr.toNat } := by
  rw [h.response, State.decPerform_response, if_pos hsel]

/-- A port whose request selects the register region sees the Bridge's port (R264). -/
theorem GrantedCycle.register_response (hmem : selMem s.cfg b.adr = false) (hsel : selCsr s.cfg b.adr = true) :
    t.out.master m = { ack := strobed b && s.el.brAck, err := false, datR := s.el.brDat } := by
  rw [h.response, State.decPerform_response, hmem, if_neg Bool.false_ne_true, if_pos hsel]

/-- A port that keeps `cyc` keeps the bus (R284, R285). -/
theorem GrantedCycle.el_of_cyc (hg : s.el.grant = m) (hcyc : b.cyc = true) : t.el = (s.decPerform b).el := by
  rw [h.el, hcyc, grantAfter_held, ← hg, ← s.decPerform_grant b]

/-- The first clock cycle of a beat to the memory latches the address (R161). -/
theorem GrantedCycle.latch_el (hg : s.el.grant = m) (hbeat : strobed b = true) (hsel : selMem s.cfg b.adr = true)
    (hidle : s.el.mcState = .idle) :
    t.el = { s.el with
      mcState := .cycle, mcAdr := memIndex s.cfg b.adr, brCnt := 0, brAck := false, csrRdata := 0 } := by
  rw [h.el_of_cyc hg (Bool.and_eq_true_iff.mp hbeat).1, State.decPerform_el_memory hsel, hbeat, State.mcPerform_latch hidle,
    State.mcLatch_el]

/-- A beat to the memory in CYCLE commits its write and advances the latched address (R162). -/
theorem GrantedCycle.beat_el (hg : s.el.grant = m) (hbeat : strobed b = true) (hsel : selMem s.cfg b.adr = true)
    (hcycle : s.el.mcState = .cycle) :
    t.el = { s.el with
      mcAdr := flatAdvance s.cfg s.el.mcAdr b.cti b.bte
      mem := if b.we && s.cfg.memWritable then s.el.mem.writeWord s.el.mcAdr.toNat b.sel b.datW else s.el.mem
      brCnt := 0, brAck := false, csrRdata := 0 } := by
  rw [h.el_of_cyc hg (Bool.and_eq_true_iff.mp hbeat).1, State.decPerform_el_memory hsel, hbeat, State.mcPerform_beat hcycle,
    State.mcBeat_el, State.advance_mcAdr, ← hcycle]

/-- A beat to the register region performs the Bridge's operation, and the controller releases or idles (R264). -/
theorem GrantedCycle.register_el (hg : s.el.grant = m) (hbeat : strobed b = true) (hmem : selMem s.cfg b.adr = false)
    (hsel : selCsr s.cfg b.adr = true) : t.el = { (s.brPerform true b).el with mcState := .idle } := by
  rw [h.el_of_cyc hg (Bool.and_eq_true_iff.mp hbeat).1, State.decPerform_el_registers hmem hsel, hbeat]

/-- A clock cycle without a beat brings both slaves to rest (R125, R126). -/
theorem GrantedCycle.rest_el (hb : strobed b = false) :
    t.el = { s.el with
      grant := grantAfter m b.cyc (portRequest s.inp m.other).cyc
      mcState := .idle, brCnt := 0, brAck := false, csrRdata := 0 } := by
  rw [h.el, State.decPerform_el_no_beat hb]

end

/-! The WB operations as requests (R97). -/

/-- Each of the 20 beats presents a strobed request at its address. -/
theorem exec_beats (s : State) (m : Master) (adr : Adr) (sel : BitVec 4) (datW : Word) :
    ∀ p ∈ readBeats m adr sel ++ writeBeats m adr sel datW,
      ∃ b, exec p.1 s = .next (s.portCycle m b) ∧ strobed b = true ∧ b.adr = adr := by
  intro p hp
  rcases List.mem_append.mp hp with hp | hp
  · exact ⟨_, exec_readBeats s m adr sel p hp, rfl, rfl⟩
  · exact ⟨_, exec_writeBeats s m adr sel datW p hp, rfl, rfl⟩

/-- Each of the 22 operations is a clock cycle of its port. -/
theorem exec_wbOps (s : State) (m : Master) (adr : Adr) (sel : BitVec 4) (datW : Word) :
    ∀ i ∈ wbOps m adr sel datW, ∃ b, exec i s = .next (s.portCycle m b) := by
  intro i hi
  simp only [wbOps, List.mem_append, List.mem_cons, List.not_mem_nil, or_false, List.mem_map] at hi
  rcases hi with ((rfl | rfl) | ⟨p, hp, rfl⟩) | ⟨p, hp, rfl⟩
  · exact ⟨_, rfl⟩
  · exact ⟨_, rfl⟩
  · exact ⟨_, exec_readBeats s m adr sel p hp⟩
  · exact ⟨_, exec_writeBeats s m adr sel datW p hp⟩

/-- Settles O48: each operation is a clock cycle of its port, which drives that port's own response and nothing else. -/
theorem ungrantedPortGetsNoResponse : Obligations.UngrantedPortGetsNoResponse := by
  intro s m adr sel datW hg i hi
  obtain ⟨b, hexec⟩ := exec_wbOps s m adr sel datW i hi
  rw [State.portCycle, if_neg hg] at hexec
  refine ⟨_, hexec, s.wait_context m, s.wait_el m, ?_⟩
  simp [State.wait]

/-! The non-incrementing cycle types (R129, R130, R139 to R146). -/

/-- A cycle type other than INCR gives VK = 0b00, as CLASSIC does (R90). -/
theorem advKey_of_not_incr {cti : BitVec 3} (h : cti ≠ 0b010#3) (bte : BitVec 2) : advKey cti bte = advKey 0b000#3 0b00#2 := by
  rw [advKey, if_neg h]
  rfl

section
variable (s : State) (m : Master) {cti : BitVec 3} (h : cti ≠ 0b010#3) (bte : BitVec 2) (adr : Adr) (sel : BitVec 4)
  (datW : Word)
include h

theorem State.portCycle_read_classic :
    s.portCycle m (readRequest cti bte adr sel datW) = s.portCycle m (readRequest 0b000#3 0b00#2 adr sel datW) :=
  s.portCycle_sameBeat m
    { cyc := rfl, strobed := rfl, adr := rfl, sel := rfl, datW := rfl, we := fun _ => rfl
      vk := fun _ => advKey_of_not_incr h bte }

theorem State.portCycle_write_classic :
    s.portCycle m (writeRequest cti bte adr sel datW) = s.portCycle m (writeRequest 0b000#3 0b00#2 adr sel datW) :=
  s.portCycle_sameBeat m
    { cyc := rfl, strobed := rfl, adr := rfl, sel := rfl, datW := rfl, we := fun _ => rfl
      vk := fun _ => advKey_of_not_incr h bte }

end

/-- Settles O55: no slave can tell the requests apart, since all have the VK of a classic beat. -/
theorem nonIncrementingBeatsAreClassic : Obligations.NonIncrementingBeatsAreClassic := by
  intro s m adr sel datW
  have read {cti : BitVec 3} (h : cti ≠ 0b010#3) := s.portCycle_read_classic m h 0b00#2 adr sel (s.datLines m)
  have write {cti : BitVec 3} (h : cti ≠ 0b010#3) := s.portCycle_write_classic m h 0b00#2 adr sel datW
  simp only [List.forall_mem_cons]
  refine ⟨⟨?const, ?rsvd3, ?rsvd45, ?rsvd6, ?eob, nofun⟩, ⟨?wConst, ?wRsvd3, ?wRsvd45, ?wRsvd6, ?wEob, nofun⟩⟩
  case const | rsvd3 | rsvd45 | rsvd6 | eob => exact congrArg Host.Outcome.next (read (by decide))
  case wConst | wRsvd3 | wRsvd45 | wRsvd6 | wEob => exact congrArg Host.Outcome.next (write (by decide))

/-- Settles O49: neither operation strobes, so both slaves come to rest; WB.WAIT keeps `cyc`, and with it the grant. -/
theorem grantedPortWithoutBeat : Obligations.GrantedPortWithoutBeat := by
  intro s m adr hg
  have idle := State.portCycle_granted hg (idleRequest adr (s.selLines m) (s.datLines m))
  have wait := State.portCycle_granted hg (waitRequest adr (s.selLines m) (s.datLines m))
  obtain ⟨idleAck, idleErr⟩ := idle.silent_without_beat rfl
  obtain ⟨waitAck, waitErr⟩ := wait.silent_without_beat rfl
  obtain ⟨idleOtherAck, idleOtherErr⟩ := idle.other_silent
  obtain ⟨waitOtherAck, waitOtherErr⟩ := wait.other_silent
  refine ⟨⟨_, rfl, idle.context, idleAck, idleErr, idleOtherAck, idleOtherErr, idle.rest_el rfl⟩,
    ⟨_, rfl, wait.context, waitAck, waitErr, waitOtherAck, waitOtherErr, ?_⟩⟩
  rw [wait.rest_el rfl, ← hg]
  rfl

/-- Settles O51: a beat to the memory finds the controller in IDLE, which latches and does not acknowledge. -/
theorem firstMemoryBeatLatchesTheAddress : Obligations.FirstMemoryBeatLatchesTheAddress := by
  intro s m adr sel datW hg hsel hidle p hp
  obtain ⟨b, hexec, hbeat, rfl⟩ := exec_beats s m adr sel datW p hp
  have cycle := State.portCycle_granted hg b
  have response := cycle.memory_response hsel
  rw [hidle, decide_eq_false (by decide), Bool.and_false] at response
  obtain ⟨otherAck, otherErr⟩ := cycle.other_silent
  exact ⟨_, hexec, cycle.context, by rw [response], by rw [response], otherAck, otherErr,
    cycle.latch_el hg hbeat hsel hidle⟩

/-- Settles O52: a read is MC.BEAT without a write. -/
theorem memoryReadBeatReturnsTheWord : Obligations.MemoryReadBeatReturnsTheWord := by
  intro s m adr sel hg hsel hcycle p hp
  have cycle := State.portCycle_granted hg (readRequest p.2.1 p.2.2 adr sel (s.datLines m))
  have response := cycle.memory_response hsel
  rw [hcycle] at response
  obtain ⟨otherAck, otherErr⟩ := cycle.other_silent
  exact ⟨_, exec_readBeats s m adr sel p hp, cycle.context, response, otherAck, otherErr,
    cycle.beat_el hg rfl hsel hcycle⟩

/-- Settles O53: a write is MC.BEAT with the commit of R166, byte by byte. -/
theorem memoryWriteBeatCommitsTheLanes : Obligations.MemoryWriteBeatCommitsTheLanes := by
  intro s m adr sel datW hwf hg hsel hcycle p hp
  have cycle := State.portCycle_granted hg (writeRequest p.2.1 p.2.2 adr sel datW)
  have response := cycle.memory_response hsel
  rw [hcycle] at response
  obtain ⟨otherAck, otherErr⟩ := cycle.other_silent
  have el := cycle.beat_el hg rfl hsel hcycle
  refine ⟨_, exec_writeBeats s m adr sel datW p hp, cycle.context, by rw [response]; rfl, by rw [response], otherAck, otherErr,
    by rw [el]; rfl, fun a => ?_⟩
  rw [el]
  show (if s.cfg.memWritable then s.el.mem.writeWord s.el.mcAdr.toNat sel datW else s.el.mem).read a = _
  rw [apply_ite (Memory.read · a), Memory.read_writeWord _ _ _ _ hwf]

/-! The Bridge's operation by its key (R103, R192). -/

/-- What a lane leaves of the record depends on the data lines of a write only (R102, R192). -/
theorem State.issueLane_el_congr (s : State) (k : Nat) (adr : Adr) (sel : BitVec 4) {we : Bool} {datW datW' : Word}
    (h : we = true → datW' = datW) :
    (s.issueLane k adr sel we datW').el = (s.issueLane k adr sel we datW).el := by
  cases we with
  | true => rw [h rfl]
  | false =>
    unfold State.issueLane
    cases sel.getLsbD k with
    | false => rfl
    | true =>
      show ((s.driveLane k adr datW').csrRead _).el = ((s.driveLane k adr datW).csrRead _).el
      simp only [State.csrRead_el, State.driveLane, State.regRead_driveNarrow, State.driveNarrow_el_field,
        State.driveNarrow_regV]

/-- The operation the Bridge's key selects for a beat leaves the record that the Bridge's clock cycle leaves (R103, R192). -/
theorem exec_decodeBR_el (s : State) {b : Request} {datW : Word} (h : b.we = true → datW = b.datW) :
    ∃ u, exec (decodeBR true s.el.brAck s.el.brCnt { adr := b.adr, sel := b.sel, we := b.we, datW := datW }) s = .next u ∧
      u.el = (s.brPerform true b).el := by
  have lane (w : State) (k : Nat) (n : BitVec 3) :
      ((w.issueLane k b.adr b.sel b.we datW).setBrCnt n).el = ((w.issueLane k b.adr b.sel b.we b.datW).setBrCnt n).el := by
    rw [State.setBrCnt_el, State.setBrCnt_el, w.issueLane_el_congr k b.adr b.sel h]
  unfold decodeBR State.brPerform
  split_ifs
  · exact ⟨_, rfl, rfl⟩
  · exact ⟨_, rfl, rfl⟩
  · exact ⟨_, rfl, lane _ 0 1⟩
  · exact ⟨_, rfl, lane _ 1 2⟩
  · exact ⟨_, rfl, lane _ 2 3⟩
  · exact ⟨_, rfl, lane _ 3 4⟩
  · exact ⟨_, rfl, rfl⟩

/-- A beat of the granted port to the register region against the Bridge's operation of its key; `datW` stands on the data
lines of a write (R123, R264). -/
theorem GrantedCycle.bridge_operation {s t : State} {m : Master} {b : Request} (h : GrantedCycle s m b t)
    (hg : s.el.grant = m) (hbeat : strobed b = true) (hmem : selMem s.cfg b.adr = false) (hsel : selCsr s.cfg b.adr = true)
    {datW : Word} (hdat : b.we = true → datW = b.datW) :
    ∃ u, exec (decodeBR true s.el.brAck s.el.brCnt { adr := b.adr, sel := b.sel, we := b.we, datW := datW }) s = .next u ∧
      sameContext s t ∧ t.el = { u.el with mcState := .idle } ∧
      t.out.master m = { ack := s.el.brAck, err := false, datR := s.el.brDat } ∧
      (t.out.master m.other).ack = false ∧ (t.out.master m.other).err = false := by
  obtain ⟨u, hexec, hu⟩ := exec_decodeBR_el s hdat
  have response := h.register_response hmem hsel
  rw [hbeat, Bool.true_and] at response
  exact ⟨u, hexec, h.context, hu ▸ h.register_el hg hbeat hmem hsel, response, h.other_silent⟩

/-- Settles O54: a beat to the register region is the Bridge's clock cycle, and the Bridge's operation takes the data lines of a
write only. -/
theorem registerBeatPerformsTheBridgeOperation : Obligations.RegisterBeatPerformsTheBridgeOperation := by
  intro s m adr sel datW hg hmem hsel
  refine ⟨fun p hp => ?_, fun p hp => ?_⟩
  · have cycle := State.portCycle_granted hg (readRequest p.2.1 p.2.2 adr sel (s.datLines m))
    obtain ⟨u, hu⟩ := cycle.bridge_operation hg rfl hmem hsel (datW := datW) nofun
    exact ⟨_, u, exec_readBeats s m adr sel p hp, hu⟩
  · have cycle := State.portCycle_granted hg (writeRequest p.2.1 p.2.2 adr sel datW)
    obtain ⟨u, hu⟩ := cycle.bridge_operation hg rfl hmem hsel (datW := datW) fun _ => rfl
    exact ⟨_, u, exec_writeBeats s m adr sel datW p hp, hu⟩

/-! The ports' responses in a step (R268, R282). -/

/-- What a step leaves on the ports: the Decoder's response on the granted port's lines, `dat_r` alone on the other's (R282). -/
theorem step_responses {s t : State} (h : step s = .next t) :
    ∃ w : State, w.cfg = s.cfg ∧ w.el = s.el ∧
      t.out.master s.el.grant = (w.decPerform (s.requestAt s.el.grant 0)).wires.d ∧
      t.out.master s.el.grant.other =
        { ack := false, err := false, datR := (w.decPerform (s.requestAt s.el.grant 0)).wires.d.datR } := by
  obtain ⟨_, _, _, _, out⟩ := step_inversion h
  have cycle : GrantedCycle (s.load.wait s.el.grant.other) s.el.grant s.load.downstream s.load.served :=
    State.portCycle_granted (by rw [State.wait_el]; rfl) _
  rw [← State.load_downstream]
  exact ⟨s.load.wait s.el.grant.other, State.wait_cfg _ _, State.wait_el _ _, (out _).trans cycle.response,
    (out _).trans cycle.otherResponse⟩

/-- Settles O43: the granted port sees what the Decoder answers, the other port no more than the data. -/
theorem atMostOneResponse : Obligations.AtMostOneResponse := by
  intro s t hstep
  obtain ⟨w, cfg, _, response, otherResponse⟩ := step_responses hstep
  obtain ⟨exclusive, onlyBeats, onlyMiss⟩ := w.decPerform_response_exclusive (s.requestAt s.el.grant 0)
  rw [← response] at exclusive onlyBeats onlyMiss
  rw [cfg] at onlyMiss
  have data : (t.out.master s.el.grant).datR = (t.out.master s.el.grant.other).datR := by rw [response, otherResponse]
  refine ⟨by rw [otherResponse], by rw [otherResponse], exclusive, fun h => Bool.and_eq_true_iff.mp (onlyBeats h), onlyMiss,
    ?_⟩
  cases hg : s.el.grant with
  | m0 => rwa [hg] at data
  | m1 => rw [hg] at data; exact data.symm

/-! A read burst of the memory (R175). -/

/-- A run goes on with one more step. -/
theorem runFor_succ_of_last {n : Nat} {s u : State} (h : runFor n s = .next u) : runFor (n + 1) s = runFor 1 u := by
  induction n generalizing s with
  | zero => cases h; rfl
  | succ n ih =>
    obtain ⟨v, hstep, hrun⟩ := runFor_succ_inversion h
    rw [runFor_succ_of_step hstep, ih hrun]

theorem runFor_one_of_step {s t : State} (h : step s = .next t) : runFor 1 s = .next t := runFor_succ_of_step h

/-- A read acknowledged in CYCLE shows the latched word, advances the address, and leaves the memory (R162, R165). -/
theorem heldCycle_read {m : Master} {s : State} (hl : s.cfg.legal = true) (hg : s.el.grant = m)
    (hcycle : s.el.mcState = .cycle) (hbeat : strobed (s.requestAt m 0) = true) (hwe : (s.requestAt m 0).we = false)
    (hsel : selMem s.cfg (s.requestAt m 0).adr = true) :
    ∃ t, HeldCycle m s t ∧
      t.out.master m = { ack := true, err := false, datR := s.el.mem.readWord s.el.mcAdr.toNat } ∧
      t.el.mcState = .cycle ∧
      t.el.mcAdr = flatAdvance s.cfg s.el.mcAdr (s.requestAt m 0).cti (s.requestAt m 0).bte ∧ t.el.mem = s.el.mem := by
  obtain ⟨t, held, mc⟩ := heldCycle_of_cyc hl hg (Bool.and_eq_true_iff.mp hbeat).1
  subst hg
  have response := step_memory_response held.step hsel
  rw [hbeat, hcycle] at response
  rw [hbeat, hsel, Bool.and_true, State.mcPerform_beat (s := s.load) hcycle, State.mcBeat_el, State.advance_mcAdr, hwe] at mc
  obtain ⟨_, mcState, mcAdr, mem⟩ := mc
  exact ⟨t, held, response, mcState, mcAdr, mem⟩

/-- Port `m` is in the middle of a burst that it began in state `s`: in `u` the word of beat `j` is latched. -/
structure InBurst (s : State) (m : Master) (j : Nat) (u : State) : Prop where
  cfg : u.cfg = s.cfg
  grant : u.el.grant = m
  mcState : u.el.mcState = .cycle
  mcAdr : u.el.mcAdr = s.burstIndex m j
  mem : u.el.mem = s.el.mem
  requestAt : ∀ k, u.requestAt m k = s.requestAt m (j + 1 + k)

/-- The requests with which port `m` reads the memory in clock cycles 0 to `n` from state `s`. -/
def ReadsMemory (s : State) (m : Master) (n : Nat) : Prop :=
  ∀ k ≤ n, (s.requestAt m k).cyc = true ∧ (s.requestAt m k).stb = true ∧ (s.requestAt m k).we = false ∧
    selMem s.cfg (s.requestAt m k).adr = true

section
variable {s : State} {m : Master} {n : Nat} (hl : s.cfg.legal = true) (reads : ReadsMemory s m n)
include hl reads

/-- The first clock cycle of a burst latches the address of its first word (R161). -/
theorem burst_begins (hg : s.el.grant = m) (hidle : s.el.mcState = .idle) :
    ∃ u, runFor 1 s = .next u ∧ InBurst s m 0 u ∧ (u.out.master m).ack = false ∧ (u.out.master m).err = false := by
  obtain ⟨cyc, stb, _, sel⟩ := reads 0 (Nat.zero_le n)
  obtain ⟨u, held, mcState, mcAdr, mem⟩ := heldCycle_latch hl hg hidle (Bool.and_eq_true_iff.mpr ⟨cyc, stb⟩) sel
  have requests (k : Nat) : u.requestAt m k = s.requestAt m (0 + 1 + k) := by rw [held.requestAt k, Nat.zero_add, Nat.add_comm]
  have inBurst : InBurst s m 0 u := ⟨held.cfg, held.grant, mcState, mcAdr, mem, requests⟩
  subst hg
  have response := step_memory_response held.step sel
  rw [hidle, decide_eq_false (by decide), Bool.and_false] at response
  exact ⟨u, runFor_one_of_step held.step, inBurst, by rw [response], by rw [response]⟩

/-- Each further clock cycle is acknowledged with the latched word, and latches the next one's index (R162, R165). -/
theorem burst_goes_on {j : Nat} {u : State} (hj : j < n) (h : InBurst s m j u) :
    ∃ t, runFor 1 u = .next t ∧ InBurst s m (j + 1) t ∧
      t.out.master m = { ack := true, err := false, datR := s.el.mem.readWord (s.burstIndex m j).toNat } := by
  obtain ⟨cyc, stb, we, sel⟩ := reads (j + 1) hj
  have now : u.requestAt m 0 = s.requestAt m (j + 1) := h.requestAt 0
  obtain ⟨t, held, response, mcState, mcAdr, mem⟩ := heldCycle_read (h.cfg ▸ hl) h.grant h.mcState
    (by rw [now]; exact Bool.and_eq_true_iff.mpr ⟨cyc, stb⟩) (by rw [now]; exact we) (by rw [now, h.cfg]; exact sel)
  rw [h.cfg, h.mcAdr, now] at mcAdr
  rw [h.mem, h.mcAdr] at response
  refine ⟨t, runFor_one_of_step held.step, ?_, response⟩
  exact
    { cfg := held.cfg.trans h.cfg, grant := held.grant, mcState := mcState, mcAdr := mcAdr, mem := mem.trans h.mem
      requestAt := fun k => by rw [held.requestAt k, h.requestAt, Nat.add_comm k 1, ← Nat.add_assoc] }

/-- After `j + 1` clock cycles the burst stands at its `j`-th word. -/
theorem burst_reaches (hg : s.el.grant = m) (hidle : s.el.mcState = .idle) {j : Nat} (hj : j ≤ n) :
    ∃ u, runFor (j + 1) s = .next u ∧ InBurst s m j u := by
  induction j with
  | zero =>
    obtain ⟨u, hrun, inBurst, _⟩ := burst_begins hl reads hg hidle
    exact ⟨u, hrun, inBurst⟩
  | succ j ih =>
    obtain ⟨u, hrun, inBurst⟩ := ih (Nat.le_of_succ_le hj)
    obtain ⟨t, hnext, inBurst', _⟩ := burst_goes_on hl reads hj inBurst
    exact ⟨t, (runFor_succ_of_last hrun).trans hnext, inBurst'⟩

end

/-- Settles O22, by induction on the words of the burst: each clock cycle hands over the latched word and latches the next. -/
theorem readBurstReturnsConsecutiveWords : Obligations.ReadBurstReturnsConsecutiveWords := by
  intro s m n inv hg hidle reads
  obtain ⟨t, hrun, _, ack, err⟩ := burst_begins inv.legal reads hg hidle
  refine ⟨⟨t, hrun, ack, err⟩, fun j hj => ?_⟩
  obtain ⟨u, hreach, inBurst⟩ := burst_reaches inv.legal reads hg hidle (Nat.le_of_lt hj)
  obtain ⟨v, hnext, inBurst', response⟩ := burst_goes_on inv.legal reads hj inBurst
  exact ⟨v, (runFor_succ_of_last hreach).trans hnext, inBurst'.grant, response⟩

end Sys2Proof.Machine

/-! The Memory Controller and the burst address generator (41_memory_controller.md R160 to R172): the window in which a wrapping
step counts, what repeating it does, and the four operations of the controller. -/

namespace Sys2Proof.Machine

/-! A wrapping step in a memory that holds its window (R168 to R171). -/

section
variable {c : Config} {w : Nat} (holds : w ≤ c.memAW) (window : w ≤ 30)
include holds window

/-- The window and its block lie inside the 30 bits of an index, so nothing is cut off. -/
theorem nextWrap_toNat (a : Index) :
    (nextWrap c w a).toNat = a.toNat / 2 ^ w * 2 ^ w + (a.toNat + 1) % 2 ^ w := by
  have fits : a.toNat / 2 ^ w * 2 ^ w + (a.toNat + 1) % 2 ^ w < 2 ^ 30 := by
    obtain ⟨blocks, total⟩ : 2 ^ w ∣ 2 ^ 30 := Nat.pow_dvd_pow 2 window
    have block : a.toNat / 2 ^ w < blocks := Nat.div_lt_of_lt_mul (total ▸ a.isLt)
    calc a.toNat / 2 ^ w * 2 ^ w + (a.toNat + 1) % 2 ^ w
        < a.toNat / 2 ^ w * 2 ^ w + 2 ^ w := Nat.add_lt_add_left (Nat.mod_lt _ (Nat.two_pow_pos w)) _
      _ = (a.toNat / 2 ^ w + 1) * 2 ^ w := (Nat.succ_mul _ _).symm
      _ ≤ blocks * 2 ^ w := Nat.mul_le_mul_right _ block
      _ = 2 ^ 30 := by rw [total, Nat.mul_comm]
  rw [nextWrap, Nat.min_eq_left holds, BitVec.toNat_ofNat, Nat.mod_eq_of_lt fits]

/-- No carry leaves the window (R170 (2)). -/
theorem nextWrap_div (a : Index) : (nextWrap c w a).toNat / 2 ^ w = a.toNat / 2 ^ w := by
  have low : (a.toNat + 1) % 2 ^ w < 2 ^ w := Nat.mod_lt _ (Nat.two_pow_pos w)
  rw [nextWrap_toNat holds window, Nat.mul_comm, Nat.mul_add_div (Nat.two_pow_pos w), Nat.div_eq_of_lt low, Nat.add_zero]

theorem nextWrap_mod (a : Index) : (nextWrap c w a).toNat % 2 ^ w = (a.toNat + 1) % 2 ^ w := by
  rw [nextWrap_toNat holds window, Nat.mul_add_mod', Nat.mod_mod]

/-- The low bits count up modulo the window, the bits above stay. -/
theorem nextWrap_iterate (a : Index) (n : Nat) :
    ((nextWrap c w)^[n] a).toNat / 2 ^ w = a.toNat / 2 ^ w ∧
      ((nextWrap c w)^[n] a).toNat % 2 ^ w = (a.toNat + n) % 2 ^ w := by
  induction n with
  | zero => exact ⟨rfl, rfl⟩
  | succ n ih =>
    obtain ⟨div, mod⟩ := ih
    rw [Function.iterate_succ_apply']
    refine ⟨(nextWrap_div holds window _).trans div, ?_⟩
    rw [nextWrap_mod holds window, Nat.add_mod, mod, ← Nat.add_mod, Nat.add_assoc]

/-- A whole round of the window comes back to the address it began at (R170 (3)). -/
theorem nextWrap_iterate_window (a : Index) : (nextWrap c w)^[2 ^ w] a = a := by
  obtain ⟨div, mod⟩ := nextWrap_iterate holds window a (2 ^ w)
  rw [Nat.add_mod_right] at mod
  refine BitVec.eq_of_toNat_eq ?_
  rw [← Nat.div_add_mod ((nextWrap c w)^[2 ^ w] a).toNat (2 ^ w), div, mod, Nat.div_add_mod]

end

/-- A vector whose low `w` bits count by themselves, as a number. -/
theorem toNat_high_append_low_succ {n u w : Nat} (width : u + w = n) (a : BitVec n) :
    (a.extractLsb' w u ++ (a.extractLsb' 0 w + 1#w)).toNat = a.toNat / 2 ^ w * 2 ^ w + (a.toNat + 1) % 2 ^ w := by
  have high : a.toNat / 2 ^ w < 2 ^ u := Nat.div_lt_of_lt_mul (by rw [← Nat.pow_add, Nat.add_comm, width]; exact a.isLt)
  have low : (a.extractLsb' 0 w + 1#w).toNat = (a.toNat + 1) % 2 ^ w := by simp
  rw [BitVec.toNat_append, ← Nat.shiftLeft_add_eq_or_of_lt (BitVec.isLt _), low, BitVec.extractLsb'_toNat,
    Nat.shiftRight_eq_div_pow, Nat.mod_eq_of_lt high, Nat.shiftLeft_eq]

/-- A wrapping step keeps the bits above the window and counts those in it, as R168, R169 and R171 write it. -/
theorem nextWrap_eq_append {c : Config} {u w : Nat} (width : u + w = 30) (holds : w ≤ c.memAW) (a : Index) :
    nextWrap c w a = (a.extractLsb' w u ++ (a.extractLsb' 0 w + 1#w)).cast width := by
  have window : w ≤ 30 := width ▸ Nat.le_add_left w u
  refine BitVec.eq_of_toNat_eq ?_
  rw [nextWrap_toNat holds window, BitVec.toNat_cast, toNat_high_append_low_succ width]

/-- In a memory smaller than the window the wrap is the linear step (R170 (4)). -/
theorem nextWrap_eq_nextLinear {c : Config} {w : Nat} {a : Index} (small : c.memAW < w) (inside : a.toNat < 2 ^ c.memAW) :
    nextWrap c w a = nextLinear c a := by
  rw [nextWrap, nextLinear, Nat.min_eq_right (Nat.le_of_lt small), Nat.div_eq_of_lt inside, Nat.zero_mul, Nat.zero_add]

/-! The ADV operations (R165, R167 to R171): each is one step of the generator. -/

theorem exec_advLinear (s : State) : exec .advLinear s = .next s.advanceLinear := rfl
theorem exec_advWrap4 (s : State) : exec .advWrap4 s = .next (s.advanceWrap 2) := rfl
theorem exec_advWrap8 (s : State) : exec .advWrap8 s = .next (s.advanceWrap 3) := rfl
theorem exec_advWrap16 (s : State) : exec .advWrap16 s = .next (s.advanceWrap 4) := rfl

theorem State.advanceWrap_eq_append {s : State} {u w : Nat} (width : u + w = 30) (holds : w ≤ s.cfg.memAW) :
    s.advanceWrap w =
      s.setMcAdr ((s.el.mcAdr.extractLsb' w u ++ (s.el.mcAdr.extractLsb' 0 w + 1#w)).cast width) := by
  rw [State.advanceWrap, nextWrap_eq_append width holds]

theorem State.advanceWrap_eq_advanceLinear {s : State} {w : Nat} (small : s.cfg.memAW < w)
    (inside : s.el.mcAdr.toNat < 2 ^ s.cfg.memAW) : s.advanceWrap w = s.advanceLinear := by
  rw [State.advanceWrap, State.advanceLinear, nextWrap_eq_nextLinear small inside]

theorem advKey_linear {cti : BitVec 3} {bte : BitVec 2} (h : cti ≠ 0b010#3 ∨ bte = 0b00#2) : advKey cti bte = 0b00#2 := by
  rcases h with other | rfl
  · exact if_neg other
  · exact ite_self _

/-- Settles O20: each ADV operation writes the generator's next address; in a memory that holds the window that is the count of
the low bits, in a smaller one the linear step. -/
theorem advanceCountsInItsWindow : Obligations.AdvanceCountsInItsWindow := by
  intro s c a
  refine ⟨fun cti bte => ⟨advKey_linear, fun incr => if_pos incr⟩, rfl, rfl, rfl, rfl, exec_advLinear s, fun holds => ?_,
    fun holds => ?_, fun holds => ?_, fun inside => ⟨fun small => ?_, fun small => ?_, fun small => ?_⟩⟩
  · rw [exec_advWrap4, State.advanceWrap_eq_append (u := 28) rfl holds]
    rfl
  · rw [exec_advWrap8, State.advanceWrap_eq_append (u := 27) rfl holds]
    rfl
  · rw [exec_advWrap16, State.advanceWrap_eq_append (u := 26) rfl holds]
    rfl
  · rw [exec_advWrap4, State.advanceWrap_eq_advanceLinear small inside, exec_advLinear]
  · rw [exec_advWrap8, State.advanceWrap_eq_advanceLinear small inside, exec_advLinear]
  · rw [exec_advWrap16, State.advanceWrap_eq_advanceLinear small inside, exec_advLinear]

/-! Repeated wrapping steps (R170 (3)). -/

/-- Repeating an operation that is a wrapping step repeats the step on the latched address. -/
theorem repeatOp_of_advanceWrap {i : Instr} {w : Nat} (op : ∀ s, exec i s = .next (s.advanceWrap w)) (n : Nat) (s : State) :
    repeatOp n i s = .next (s.setMcAdr ((nextWrap s.cfg w)^[n] s.el.mcAdr)) := by
  induction n generalizing s with
  | zero => rfl
  | succ n ih =>
    rw [repeatOp, op]
    exact ih (s.advanceWrap w)

/-- The wrapping operations and their windows (R168, R169, R171). -/
theorem wrapOps_window :
    ∀ p ∈ [(Instr.advWrap4, 4), (Instr.advWrap8, 8), (Instr.advWrap16, 16)],
      ∃ w ≤ 30, p.2 = 2 ^ w ∧ ∀ s, exec p.1 s = .next (s.advanceWrap w) := by
  simp only [List.forall_mem_cons]
  exact ⟨⟨2, by decide, rfl, exec_advWrap4⟩, ⟨3, by decide, rfl, exec_advWrap8⟩, ⟨4, by decide, rfl, exec_advWrap16⟩, nofun⟩

/-- Settles O21: the `n`-th address of the burst has the first one's upper bits, and low bits that are `n` further on. -/
theorem wrapBurstReturnsAfterItsWindow : Obligations.WrapBurstReturnsAfterItsWindow := by
  intro s p member fits
  obtain ⟨w, window, size, op⟩ := wrapOps_window p member
  rw [size] at fits ⊢
  have holds : w ≤ s.cfg.memAW := (Nat.pow_le_pow_iff_right (by decide)).mp fits
  refine ⟨?returns, fun i j hij hj => ?distinct⟩
  case returns =>
    rw [repeatOp_of_advanceWrap op, nextWrap_iterate_window holds window]
    rfl
  case distinct =>
    obtain ⟨divI, modI⟩ := nextWrap_iterate holds window s.el.mcAdr i
    obtain ⟨divJ, modJ⟩ := nextWrap_iterate holds window s.el.mcAdr j
    refine ⟨_, _, repeatOp_of_advanceWrap op i s, repeatOp_of_advanceWrap op j s, fun same => ?_, divI, divJ⟩
    rw [State.setMcAdr_mcAdr, State.setMcAdr_mcAdr, modI, modJ] at same
    have equal : i ≡ j [MOD 2 ^ w] := Nat.ModEq.add_left_cancel' _ same
    exact hij.ne (equal.eq_of_lt_of_lt (hij.trans hj) hj)

/-! The MC operations (R161 to R164, R166). -/

/-- MC.BEAT drives the controller's port and no other signal (R162, R172). -/
theorem State.mcBeat_signals (s : State) (we : Bool) (sel : BitVec 4) (datW : Word) (cti : BitVec 3) (bte : BitVec 2) :
    (s.mcBeat we sel datW cti bte).out = s.out ∧
      (s.mcBeat we sel datW cti bte).wires =
        { s.wires with p := { ack := true, datR := s.el.mem.readWord s.el.mcAdr.toNat } } := by
  obtain ⟨out, wires⟩ := ((s.driveMemoryPort true).commitWrite we sel datW).advance_signals cti bte
  exact ⟨out.trans (State.commitWrite_out _ _ _ _), wires.trans (State.commitWrite_wires _ _ _ _)⟩

/-- MC.BEAT's memory, byte by byte (R166). -/
theorem State.read_mcBeat_mem (s : State) (we : Bool) (sel : BitVec 4) (datW : Word) (cti : BitVec 3) (bte : BitVec 2)
    (wf : s.el.mem.wf = true) (a : Nat) :
    (s.mcBeat we sel datW cti bte).el.mem.read a =
      if we = true ∧ s.cfg.memWritable = true then mergedByte s.el.mem s.el.mcAdr.toNat sel datW a
      else s.el.mem.read a := by
  rw [State.mcBeat_mem, storeTarget]
  split
  · exact Memory.read_writeWord _ _ _ _ wf a
  · rfl

/-- Settles O19: MC.BEAT's port, its advance by the mask formula, and its write commit. -/
theorem controllerBeatServesOneWord : Obligations.ControllerBeatServesOneWord := by
  intro s we sel datW cti bte
  refine ⟨fun c => decode_mc (by decide), fun wf => ?_⟩
  obtain ⟨out, wires⟩ := s.mcBeat_signals we sel datW cti bte
  refine ⟨s.mcBeat we sel datW cti bte, rfl, s.mcBeat_context we sel datW cti bte, out, wires, ?el,
    s.read_mcBeat_mem we sel datW cti bte wf⟩
  case el => rw [State.mcBeat_el, State.advance_mcAdr]

/-- Settles O18: the keys are read bit by bit, and each operation is the record update that its rule writes. -/
theorem controllerIdlesLatchesReleases : Obligations.ControllerIdlesLatchesReleases := by
  intro s c a
  exact ⟨decode_mc (by decide), decode_mc (by decide), decode_mc (by decide), rfl, rfl, rfl⟩

end Sys2Proof.Machine

/-! The Register File and the narrow bus (42_csr_bridge.md R201 to R213): the byte lanes of a word, bit by bit, and the operations
of the registers and of the narrow bus. -/

namespace Sys2Proof.Machine

/-! Byte lanes of a word, bit by bit (R60). -/

/-- The mask of one byte, bit by bit. -/
theorem byteMask_getLsbD (i : Nat) : (0xFF#32).getLsbD i = decide (i < 8) := by
  rw [show (0xFF#32) = (BitVec.allOnes 8).setWidth 32 by decide, BitVec.getLsbD_setWidth, BitVec.getLsbD_allOnes]
  grind

/-- A lane write, bit by bit: the lane's bits are the byte's, all others stay (R60, R195). -/
theorem getLsbD_setLane (v : Word) (k : Nat) (b : Byte) {i : Nat} (hi : i < 32) :
    (setLane v k b).getLsbD i = if 8 * k ≤ i ∧ i < 8 * k + 8 then b.getLsbD (i - 8 * k) else v.getLsbD i := by
  simp only [setLane, BitVec.getLsbD_or, BitVec.getLsbD_and, BitVec.getLsbD_not, BitVec.getLsbD_shiftLeft, byteMask_getLsbD,
    BitVec.getLsbD_setWidth, hi]
  by_cases low : i < 8 * k
  · have outside : ¬ (8 * k ≤ i ∧ i < 8 * k + 8) := by omega
    simp [low, outside]
  · by_cases high : i < 8 * k + 8
    · have inside : 8 * k ≤ i ∧ i < 8 * k + 8 := by omega
      have byte : i - 8 * k < 8 := by omega
      have word : i - 8 * k < 32 := by omega
      simp [low, inside, byte, word]
    · have outside : ¬ (8 * k ≤ i ∧ i < 8 * k + 8) := by omega
      have byte : ¬ i - 8 * k < 8 := by omega
      have noBit : b.getLsbD (i - 8 * k) = false := BitVec.getLsbD_of_ge _ _ (by omega)
      simp [low, outside, byte, noBit]

/-- Of the lanes, a lane write changes its own only (R60). -/
theorem lane_setLane (v : Word) (k : Nat) (b : Byte) {j : Nat} (hj : j < 4) :
    lane (setLane v k b) j = if j = k then b else lane v j := by
  refine BitVec.eq_of_getLsbD_eq fun i hi => ?_
  rw [lane, BitVec.getLsbD_extractLsb', getLsbD_setLane _ _ _ (by omega), apply_ite (BitVec.getLsbD · i), lane,
    BitVec.getLsbD_extractLsb', decide_eq_true hi, Bool.true_and, Bool.true_and]
  grind

/-! The word with one lane replaced, and with all four, as R195 to R198 write it. -/

section
variable (v : Word) (b : Byte)

theorem setLane_zero : setLane v 0 b = v.extractLsb' 8 24 ++ b := by
  refine BitVec.eq_of_getLsbD_eq fun i hi => ?_
  rw [getLsbD_setLane v 0 b hi, BitVec.getLsbD_append, BitVec.getLsbD_extractLsb']
  grind

theorem setLane_one : setLane v 1 b = v.extractLsb' 16 16 ++ (b ++ v.extractLsb' 0 8) := by
  refine BitVec.eq_of_getLsbD_eq fun i hi => ?_
  simp only [getLsbD_setLane v 1 b hi, BitVec.getLsbD_append, BitVec.getLsbD_extractLsb']
  grind

theorem setLane_two : setLane v 2 b = v.extractLsb' 24 8 ++ (b ++ v.extractLsb' 0 16) := by
  refine BitVec.eq_of_getLsbD_eq fun i hi => ?_
  simp only [getLsbD_setLane v 2 b hi, BitVec.getLsbD_append, BitVec.getLsbD_extractLsb']
  grind

theorem setLane_three : setLane v 3 b = b ++ v.extractLsb' 0 24 := by
  refine BitVec.eq_of_getLsbD_eq fun i hi => ?_
  simp only [getLsbD_setLane v 3 b hi, BitVec.getLsbD_append, BitVec.getLsbD_extractLsb']
  grind

end

/-- Four lane writes leave nothing of the word they began with. -/
theorem setLane_four (v : Word) (b0 b1 b2 b3 : Byte) :
    setLane (setLane (setLane (setLane v 0 b0) 1 b1) 2 b2) 3 b3 = b3 ++ (b2 ++ (b1 ++ b0)) := by
  refine BitVec.eq_of_getLsbD_eq fun i hi => ?_
  simp only [getLsbD_setLane _ _ _ hi, BitVec.getLsbD_append]
  grind

/-! The Register File's operations and the narrow bus (R201 to R213). -/

/-- The REG operation that an address selects is the register read of that address (R103, R201). -/
theorem exec_decodeREG_read (s : State) (addr : NarrowAdr) (data : Byte) :
    exec (decodeREG s.cfg false addr data) s = .next (s.regRead addr) := by
  cases h : ctrlByteAt s.cfg addr with
  | some j =>
    rw [decodeREG_ctrl _ _ h, State.regRead_ctrl h]
    rfl
  | none =>
    rw [decodeREG_read _ h, State.regRead_noCtrl h]
    split_ifs <;> rfl

/-- The REG operation that an address selects is the register write of that address (R103, R202). -/
theorem exec_decodeREG_write (s : State) (addr : NarrowAdr) (data : Byte) :
    exec (decodeREG s.cfg true addr data) s = .next (s.regWrite addr data) := by
  cases h : ctrlByteAt s.cfg addr with
  | some j =>
    rw [decodeREG_ctrl _ _ h, State.regWrite_ctrl _ h]
    rfl
  | none =>
    rw [decodeREG_write _ h, State.regWrite_noCtrl _ h]
    split_ifs <;> rfl

/-- CSR.RD is the register read, its strobe beside it, and the byte read registered (R201). -/
theorem State.csrRead_eq (s : State) (addr : NarrowAdr) :
    s.csrRead addr =
      ((s.regRead addr).driveNarrow { s.wires.narrow with addr := addr, rStb := true, wStb := false }).setCsrRdata
        (s.regRead addr).wires.regV := by
  rw [State.csrRead, State.regRead_driveNarrow]
  rfl

/-- CSR.WR is the register write, its strobe and operands beside it, and nothing registered (R202). -/
theorem State.csrWrite_eq (s : State) (addr : NarrowAdr) (data : Byte) :
    s.csrWrite addr data =
      ((s.regWrite addr data).driveNarrow { addr := addr, wStb := true, wData := data }).setCsrRdata 0 := by
  rw [State.csrWrite, State.regWrite_driveNarrow]

/-- A register read drives no output. -/
theorem State.regRead_out (s : State) (addr : NarrowAdr) : (s.regRead addr).out = s.out := by
  have beside := congrArg State.out (s.regRead_besideBridge s.el s.out s.wires.p addr)
  exact beside

/-- A register write drives no output. -/
theorem State.regWrite_out (s : State) (addr : NarrowAdr) (data : Byte) : (s.regWrite addr data).out = s.out := by
  have beside := congrArg State.out (s.regWrite_besideBridge s.el s.out s.wires.p addr data)
  exact beside

/-- Settles O27: each CSR operation is the register operation of its address with the narrow bus's lines driven beside it. -/
theorem narrowBusPerformsTheRegisterOperation : Obligations.NarrowBusPerformsTheRegisterOperation := by
  intro s addr data
  refine ⟨fun c => ⟨rfl, fun inside => ?_⟩, ?read, ?write, rfl⟩
  · have region : inRegion c addr = true := decide_eq_true inside
    exact ⟨decode_csr_read region, decode_csr_write region⟩
  case read =>
    refine ⟨_, _, rfl, exec_decodeREG_read s addr data, s.csrRead_context addr, ?_⟩
    rw [State.csrRead_eq]
    exact ⟨s.regRead_out addr, rfl, rfl⟩
  case write =>
    refine ⟨_, _, rfl, exec_decodeREG_write s addr data, s.csrWrite_context addr data, ?_⟩
    rw [State.csrWrite_eq]
    exact ⟨s.regWrite_out addr data, rfl, rfl⟩

/-- TX_DATA stands apart from the three registers that are read (R7, R35). -/
theorem Config.txData_apart {c : Config} (hl : c.legal = true) :
    c.offTxData ≠ c.offRxInfo ∧ c.offTxData ≠ c.offRxData ∧ c.offTxData ≠ c.offTxInfo := by
  obtain ⟨_, _, _, _, _, _, _, _, apart, _⟩ := (Config.legal_iff c).mp hl
  simp only [Config.registers, List.pairwise_cons, List.mem_cons, List.not_mem_nil, or_false, forall_eq_or_imp,
    forall_eq, noCommonAddress] at apart
  obtain ⟨_, ⟨_, _, rxInfo⟩, ⟨_, rxData⟩, txInfo, _⟩ := apart
  have rxInfo := rxInfo c.offTxData
  have rxData := rxData c.offTxData
  have txInfo := txInfo c.offTxData
  omega

/-- Settles O32: a byte that is not readable, or not writable, is none of the registers that the decoder compares with. -/
theorem unlistedRegistersDoNothing : Obligations.UnlistedRegistersDoNothing := by
  intro s addr data
  refine ⟨rfl, rfl, fun unreadable => ?read, fun unwritable => ?write, fun hl => ?offsets⟩
  case read =>
    obtain ⟨ctrl, rxInfo, rxData, txInfo⟩ := readableByte_eq_false_iff.mp unreadable
    rw [decodeREG_read data (ctrlByteAt_eq_none_iff.mpr (by omega)), if_neg rxInfo, if_neg rxData, if_neg txInfo]
  case write =>
    obtain ⟨ctrl, txData⟩ := writableByte_eq_false_iff.mp unwritable
    rw [decodeREG_write data (ctrlByteAt_eq_none_iff.mpr (by omega)), if_neg txData]
  case offsets =>
    have apart := Config.registersApart hl
    obtain ⟨info, data, tx⟩ := Config.txData_apart hl
    obtain ⟨_, rxInfo, rxData, txInfo, txData⟩ := Config.registers_inside hl
    simp only [readableByte_eq_false_iff, writableByte_eq_false_iff, toNat_narrow hl, rxInfo, rxData, txInfo, txData]
    have notRxInfo := apart.rxInfo
    have notRxData := apart.rxData
    have notTxInfo := apart.txInfo
    have notTxData := apart.txData
    omega

/-- A number cut to `w` bits, bit by bit. -/
theorem getLsbD_ofNat_mod_two_pow (x : Word) (w : Nat) {i : Nat} (hi : i < 32) :
    (BitVec.ofNat 32 (x.toNat % 2 ^ w)).getLsbD i = (decide (i < w) && x.getLsbD i) := by
  rw [BitVec.getLsbD_ofNat, Nat.testBit_mod_two_pow, BitVec.testBit_toNat, decide_eq_true hi, Bool.true_and]

/-- Settles O28: the key of CTRL's byte `j` is its address, and a write is the lane write cut to DIVISOR_WIDTH bits. -/
theorem controlRegisterIsBytewise : Obligations.ControlRegisterIsBytewise := by
  intro s j data hj
  refine ⟨fun hl => ?keys, rfl, fun bound => ⟨_, rfl, rfl, fun i hi => ?bits⟩⟩
  case keys =>
    have inside : s.cfg.offCtrl + j.toNat < s.cfg.csrSize := by
      have ctrl := (Config.registers_inside hl).1
      omega
    have key := (ctrlByteAt_eq_some_iff hl).mpr ⟨hj, toNat_narrow hl inside⟩
    exact ⟨decodeREG_ctrl false data key, decodeREG_ctrl true data key⟩
  case bits =>
    rw [State.writeCtrl_el, getLsbD_ofNat_mod_two_pow _ _ hi, getLsbD_setLane _ _ _ hi]
    by_cases present : i < s.cfg.divisorWidth
    · simp [present]
    · have absent : s.el.divisor.getLsbD i = false :=
        Nat.testBit_lt_two_pow (bound.trans_le (Nat.pow_le_pow_right (by decide) (Nat.le_of_not_lt present)))
      simp [present, absent]

end Sys2Proof.Machine

/-! The Bridge (42_csr_bridge.md R192 to R205): its seven operations, and the transaction of six clock cycles that they make up. -/

namespace Sys2Proof.Machine

/-! The operations without a narrow strobe (R193, R198, R199). -/

/-- BK's bits 4 and 3 are `br_beat` and `br_ack` (R103). -/
theorem brKey_bits {key : Nat} (h : key < 0b100000) :
    key.testBit 4 = decide (0b10000 ≤ key) ∧ (0b11000 ≤ key → key.testBit 3 = true) := by
  revert key
  decide

/-- BR.COLLECT's keys: a beat, no acknowledge, a count of 4 to 7 (R103, R198). -/
theorem brKey_collect :
    ∀ key ∈ [0b10100, 0b10101, 0b10110, 0b10111],
      key < 2 ^ 5 ∧ key.testBit 4 = true ∧ key.testBit 3 = false ∧ (BitVec.ofNat 3 key).getLsbD 2 = true := by
  decide

/-- Settles O24: BR.IDLE's and BR.ACK's keys are read by their high bits; each operation is the record update its rule writes. -/
theorem bridgeIdlesCollectsAcknowledges : Obligations.BridgeIdlesCollectsAcknowledges := by
  intro s c a
  refine ⟨fun key hkey => ?idle, fun key hkey => ?collect, fun key low high => ?ack, rfl, ?collected, rfl⟩
  case idle =>
    rw [decode_br (by omega), Nat.testBit_lt_two_pow hkey]
    rfl
  case collect =>
    obtain ⟨width, beat, ack, count⟩ := brKey_collect key hkey
    rw [decode_br width, beat, ack, decodeBR_collect count]
  case ack =>
    obtain ⟨beat, ack⟩ := brKey_bits high
    rw [decode_br high, beat, ack low, decide_eq_true (by omega)]
    rfl
  case collected =>
    rw [← setLane_three]
    rfl

/-! The Register File neither reads nor writes the assembly register and the Bridge's port (R84). -/

/-- `s` with another assembly register and another Bridge port. -/
def State.withAssembly (s : State) (dat : Word) (q : SlavePort) : State :=
  { s with el := { s.el with brDat := dat }, wires := { s.wires with q := q } }

section
variable (s : State) (dat : Word) (q : SlavePort)

@[simp] theorem State.withAssembly_cfg : (s.withAssembly dat q).cfg = s.cfg := rfl
@[simp] theorem State.withAssembly_rxReadReady : (s.withAssembly dat q).rxReadReady = s.rxReadReady := rfl
@[simp] theorem State.withAssembly_txWriteReady : (s.withAssembly dat q).txWriteReady = s.txWriteReady := rfl

theorem State.regRead_withAssembly (addr : NarrowAdr) :
    (s.withAssembly dat q).regRead addr = (s.regRead addr).withAssembly dat q := by
  cases h : ctrlByteAt s.cfg addr with
  | some j =>
    rw [State.regRead_ctrl (s := s.withAssembly dat q) h, State.regRead_ctrl h]
    rfl
  | none =>
    rw [State.regRead_noCtrl (s := s.withAssembly dat q) h, State.regRead_noCtrl h, State.readRxData, State.readRxData,
      State.withAssembly_rxReadReady, State.withAssembly_cfg]
    split_ifs <;> rfl

theorem State.regWrite_withAssembly (addr : NarrowAdr) (data : Byte) :
    (s.withAssembly dat q).regWrite addr data = (s.regWrite addr data).withAssembly dat q := by
  cases h : ctrlByteAt s.cfg addr with
  | some j =>
    rw [State.regWrite_ctrl (s := s.withAssembly dat q) data h, State.regWrite_ctrl data h]
    rfl
  | none =>
    rw [State.regWrite_noCtrl (s := s.withAssembly dat q) data h, State.regWrite_noCtrl data h, State.writeTxData,
      State.writeTxData, State.withAssembly_txWriteReady, State.withAssembly_cfg]
    split_ifs <;> rfl

end

section
variable (s : State) (k : Nat) (adr : Adr) (sel : BitVec 4) (we : Bool) (datW : Word)

/-- A lane's narrow beat is the CSR operation of the lane (R192, R204), which leaves the assembly register alone. -/
theorem State.issueLane_performs (dat : Word) (q : SlavePort) :
    ∃ u, exec (narrowOp s.cfg k adr sel we datW) s = .next u ∧ u.el.brDat = s.el.brDat ∧
      (s.withAssembly dat q).issueLane k adr sel we datW =
        (u.withAssembly dat q).driveNarrow
          (narrowBeat s.cfg true k { adr := adr, sel := sel, we := we, datW := datW }) := by
  unfold narrowOp narrowBeat
  rcases (s.withAssembly dat q).issueLane_cases k adr sel we datW with ⟨hs, rfl, h⟩ | ⟨hs, rfl, h⟩ | ⟨hs, h⟩ <;>
    rw [h] <;> simp only [hs]
  · refine ⟨_, rfl, by rw [State.csrWrite_el], ?_⟩
    simp only [State.driveLane, State.csrWrite_eq, State.regWrite_driveNarrow, State.regWrite_withAssembly]
    rfl
  · refine ⟨_, rfl, by rw [State.csrRead_el], ?_⟩
    simp only [State.driveLane, State.csrRead_eq, State.regRead_driveNarrow, State.regRead_withAssembly]
    rfl
  · exact ⟨_, rfl, rfl, rfl⟩

/-- A lane's narrow beat drives no output. -/
theorem State.issueLane_out : (s.issueLane k adr sel we datW).out = s.out := by
  have beside := congrArg State.out (s.issueLane_besideBridge s.el s.out s.wires.p k adr sel we datW)
  exact beside

/-- A lane's clock cycle: the CSR operation's own effect, and beside it the Bridge's counter, assembly register, port and
lines (R194 to R197). -/
theorem State.laneCycle_effect (dat : Word) (cnt : BitVec 3) {t : State}
    (ht : t = ((s.withAssembly dat { ack := false, datR := s.el.brDat }).issueLane k adr sel we datW).setBrCnt cnt) :
    ∃ u, exec (narrowOp s.cfg k adr sel we datW) s = .next u ∧ u.el.brDat = s.el.brDat ∧ sameContext s t ∧
      t.out = s.out ∧
      t.wires = { u.wires with
        q := { ack := false, datR := s.el.brDat }
        narrow := narrowBeat s.cfg true k { adr := adr, sel := sel, we := we, datW := datW } } ∧
      t.el = { u.el with brCnt := cnt, brDat := dat } := by
  obtain ⟨u, hu, kept, performs⟩ := s.issueLane_performs k adr sel we datW dat { ack := false, datR := s.el.brDat }
  have context := State.issueLane_context (s.withAssembly dat { ack := false, datR := s.el.brDat }) k adr sel we datW
  have out := State.issueLane_out (s.withAssembly dat { ack := false, datR := s.el.brDat }) k adr sel we datW
  rw [performs] at context out ht
  subst ht
  exact ⟨u, hu, kept, context, out, rfl, rfl⟩

end

/-- Settles O25: each lane's clock cycle, the lane before it collected. -/
theorem bridgeLaneIssuesAndCollects : Obligations.BridgeLaneIssuesAndCollects := by
  intro s adr sel we datW
  refine ⟨fun c => ⟨decode_br (by decide), decode_br (by decide), decode_br (by decide), decode_br (by decide)⟩, ?lane0,
    ?lane1, ?lane2, ?lane3⟩
  case lane0 =>
    obtain ⟨u, hu, kept, context, out, wires, el⟩ := s.laneCycle_effect 0 adr sel we datW s.el.brDat 1
      (t := s.brLane0 adr sel we datW) rfl
    rw [← kept] at el
    exact ⟨_, u, rfl, hu, context, out, wires, el⟩
  case lane1 =>
    obtain ⟨u, hu, _, h⟩ := s.laneCycle_effect 1 adr sel we datW (setLane s.el.brDat 0 s.el.csrRdata) 2
      (t := s.brLane1 adr sel we datW) rfl
    rw [setLane_zero] at h
    exact ⟨_, u, rfl, hu, h⟩
  case lane2 =>
    obtain ⟨u, hu, _, h⟩ := s.laneCycle_effect 2 adr sel we datW (setLane s.el.brDat 1 s.el.csrRdata) 3
      (t := s.brLane2 adr sel we datW) rfl
    rw [setLane_one] at h
    exact ⟨_, u, rfl, hu, h⟩
  case lane3 =>
    obtain ⟨u, hu, _, h⟩ := s.laneCycle_effect 3 adr sel we datW (setLane s.el.brDat 2 s.el.csrRdata) 4
      (t := s.brLane3 adr sel we datW) rfl
    rw [setLane_two] at h
    exact ⟨_, u, rfl, hu, h⟩

/-! What a lane's clock cycle leaves of the Bridge's elements and of `csr_rdata` (R194 to R197, R201 to R203). -/

/-- A register write yields no byte. -/
theorem State.regWrite_regV (s : State) (addr : NarrowAdr) (data : Byte) :
    (s.regWrite addr data).wires.regV = s.wires.regV := by
  cases h : ctrlByteAt s.cfg addr with
  | some j => rw [State.regWrite_ctrl data h]; rfl
  | none =>
    rw [State.regWrite_noCtrl data h, State.writeTxData]
    split_ifs <;> rfl

section
variable (s : State) (k : Nat) (adr : Adr) (sel : BitVec 4) (we : Bool) (datW : Word)

/-- A lane's narrow beat leaves the assembly register to the Bridge (R84). -/
theorem State.issueLane_brDat : (s.issueLane k adr sel we datW).el.brDat = s.el.brDat := by
  rcases s.issueLane_cases k adr sel we datW with ⟨_, _, h⟩ | ⟨_, _, h⟩ | ⟨_, h⟩ <;> rw [h]
  · rw [State.csrWrite_el]
    rfl
  · rw [State.csrRead_el]
    rfl
  · rfl

/-- `csr_rdata` holds the byte of the lane's clock cycle, which is 0 where no register is read (R201 to R203). -/
theorem State.issueLane_csrRdata (quiet : s.wires.regV = 0) :
    (s.issueLane k adr sel we datW).el.csrRdata = (s.issueLane k adr sel we datW).wires.regV ∧
      (sel.getLsbD k = false ∨ we = true → (s.issueLane k adr sel we datW).wires.regV = 0) := by
  rcases s.issueLane_cases k adr sel we datW with ⟨_, _, h⟩ | ⟨hs, hw, h⟩ | ⟨_, h⟩ <;> rw [h]
  · have unread : ((s.driveLane k adr datW).csrWrite (narrowAddr s.cfg adr k) (lane datW k)).wires.regV = 0 := by
      rw [State.csrWrite_eq]
      exact (State.regWrite_regV _ _ _).trans quiet
    rw [unread]
    exact ⟨rfl, fun _ => rfl⟩
  · rw [State.csrRead_eq]
    refine ⟨rfl, ?_⟩
    rw [hs, hw]
    simp
  · exact ⟨quiet.symm, fun _ => quiet⟩

end

/-- The assembly register with the byte of the lane before `k` collected (R194 to R197). -/
def State.assembledAt (s : State) : Nat → Word
  | 0 => s.el.brDat
  | k + 1 => setLane s.el.brDat k s.el.csrRdata

/-- While the counter counts a lane, the Bridge issues that lane and collects the one before it (R192, R194 to R197). -/
theorem State.brPerform_lane {s : State} {k : Nat} (hk : k < 4) (hack : s.el.brAck = false)
    (hcnt : s.el.brCnt = BitVec.ofNat 3 k) (b : Request) :
    s.brPerform true b =
      ((s.withAssembly (s.assembledAt k) { ack := false, datR := s.el.brDat }).issueLane k b.adr b.sel b.we b.datW).setBrCnt
        (BitVec.ofNat 3 (k + 1)) := by
  rw [State.brPerform, hack, hcnt]
  interval_cases k <;> rfl

/-- After the lanes the Bridge collects the last one (R192, R198). -/
theorem State.brPerform_collect {s : State} (hack : s.el.brAck = false) (hcnt : s.el.brCnt = 4#3) (b : Request) :
    s.brPerform true b = s.brCollect b.adr b.datW := by
  rw [State.brPerform, hack, hcnt]
  rfl

/-- A scheduled acknowledge is given (R192, R199). -/
theorem State.brPerform_ack {s : State} (hack : s.el.brAck = true) (b : Request) :
    s.brPerform true b = s.brAckCycle b.adr b.datW := by
  rw [State.brPerform, hack]
  rfl

/-! The byte a register read yields, through a clock cycle. -/

/-- Of a request to the register region the Decoder leaves the byte that the Bridge's operation reads: the controller drives none
(R84, R264). -/
theorem State.decPerform_regV {s : State} {d : Request} (hmem : selMem s.cfg d.adr = false) (hsel : selCsr s.cfg d.adr = true) :
    (s.decPerform d).wires.regV = (s.brPerform (strobed d) d).wires.regV := by
  rw [State.decPerform, hmem, if_neg Bool.false_ne_true, if_pos hsel, State.routeCsr, State.mcPerform_eq_besideBridge,
    State.brPerform_besideBridge]
  rfl

/-- The receive side drives no byte of a register read. -/
theorem exec_decodeRX_regV {s t : State} {rdy wRdy : Bool} {data : Byte} {ovf ferr perr : Bool}
    (h : exec (decodeRX rdy wRdy data ovf ferr perr) s = .next t) : t.wires.regV = s.wires.regV := by
  cases rdy <;> cases wRdy <;> cases h <;> rfl

/-- The transmit side drives no byte of a register read. -/
theorem exec_decodeTX_regV {s t : State} {rdy rRdy : Bool} (h : exec (decodeTX rdy rRdy) s = .next t) :
    t.wires.regV = s.wires.regV := by
  cases rdy <;> cases rRdy <;> cases h <;> rfl

/-- While the granted port's request selects the register region, a step leaves as the byte of a register read what the Bridge's
operation reads (R201, R211). -/
theorem step_regV {s t : State} (h : step s = .next t) (hmem : selMem s.cfg s.load.downstream.adr = false)
    (hsel : selCsr s.cfg s.load.downstream.adr = true) :
    t.wires.regV = (s.load.brPerform (strobed s.load.downstream) s.load.downstream).wires.regV := by
  have hl : s.cfg.legal = true := (step_inversion h).1
  obtain ⟨a, b, c, d, ha, hb, hc, hd, hstep⟩ := step_of_legal hl
  obtain rfl : a = s.load.wait s.load.el.grant.other := by injection ha.symm.trans (exec_waitingOp s.load)
  obtain rfl : b = s.load.served := by injection hb.symm.trans (exec_grantedOp s.load)
  obtain rfl : t = d.edge s.load := by injection h.symm.trans hstep
  have cfg : (s.load.wait s.load.el.grant.other).cfg = s.cfg := State.wait_cfg _ _
  calc d.wires.regV = s.load.served.wires.regV := (exec_decodeTX_regV hd).trans (exec_decodeRX_regV hc)
    _ = ((s.load.wait s.load.el.grant.other).brPerform (strobed s.load.downstream) s.load.downstream).wires.regV := by
        rw [State.served_wires, State.decPerform_regV (cfg ▸ hmem) (cfg ▸ hsel)]
    _ = (s.load.brPerform (strobed s.load.downstream) s.load.downstream).wires.regV := by
        rw [State.wait_eq_besideBridge, State.brPerform_besideBridge]
        rfl

/-! A beat of the granted port to the register region, clock cycle by clock cycle (R193 to R205). -/

/-- One clock cycle from `s` to `t` in which port `m`, granted, presents the beat `b` to the register region: the port sees the
Bridge's port, and the Bridge's elements, lines and the byte read are what its operation leaves. -/
structure RegisterCycle (m : Master) (b : Request) (s t : State) : Prop where
  held : HeldCycle m s t
  response : t.out.master m = { ack := s.el.brAck, err := false, datR := s.el.brDat }
  narrow : t.wires.narrow =
    narrowBeat s.cfg (!s.el.brAck && decide (s.el.brCnt.toNat ≤ 3)) (s.el.brCnt.toNat % 4) b
  regV : t.wires.regV = (s.load.brPerform true b).wires.regV
  brDat : t.el.brDat = (s.load.brPerform true b).el.brDat
  brAck : t.el.brAck = (s.load.brPerform true b).el.brAck
  brCnt : t.el.brCnt = (s.load.brPerform true b).el.brCnt
  csrRdata : t.el.csrRdata = (s.load.brPerform true b).el.csrRdata

/-- No address selects both slaves (R72). -/
theorem selMem_of_selCsr {c : Config} (hl : c.legal = true) {adr : Adr} (hc : selCsr c adr = true) :
    selMem c adr = false := by
  rw [Bool.eq_false_iff]
  intro hm
  rw [selCsr_of_selMem hl hm] at hc
  cases hc

/-- The Decoder hands the beat to the Bridge, and the port keeps the bus (R264, R266, R283). -/
theorem registerCycle_of_beat {s : State} {m : Master} {b : Request} (hl : s.cfg.legal = true) (hg : s.el.grant = m)
    (now : s.requestAt m 0 = b) (beat : strobed b = true) (hsel : selCsr s.cfg b.adr = true) :
    ∃ t, RegisterCycle m b s t := by
  obtain ⟨t, held, _⟩ := heldCycle_of_cyc hl hg (by rw [now]; exact (Bool.and_eq_true_iff.mp beat).1)
  subst hg
  have hmem := selMem_of_selCsr hl hsel
  have down : s.load.downstream = b := s.load_downstream.trans now
  have brBeat : s.load.brBeatNow = true := by
    rw [State.brBeatNow, down, beat]
    exact hsel
  have bridge : s.load.brPerform s.load.brBeatNow s.load.downstream = s.load.brPerform true b := by rw [brBeat, down]
  obtain ⟨narrow, _⟩ := step_bridge held.step
  obtain ⟨_, el, _⟩ := step_inversion held.step
  obtain ⟨w, cfg, wel, response, _⟩ := step_responses held.step
  have regV := step_regV held.step (by rw [down]; exact hmem) (by rw [down]; exact hsel)
  rw [State.narrowActive, brBeat, down] at narrow
  rw [now, State.decPerform_response, cfg, wel, hmem, hsel, beat] at response
  rw [down, beat] at regV
  refine ⟨t, held, response, narrow, regV, ?_, ?_, ?_, ?_⟩ <;> rw [el, ← bridge] <;> rfl

section
variable {m : Master} {b : Request} {s t : State} (h : RegisterCycle m b s t)
include h

/-- The clock cycle of lane `k` (R194 to R197). -/
theorem RegisterCycle.lane {k : Nat} (hk : k < 4) (hack : s.el.brAck = false) (hcnt : s.el.brCnt = BitVec.ofNat 3 k) :
    t.el.brCnt = BitVec.ofNat 3 (k + 1) ∧ t.el.brAck = false ∧ t.el.brDat = s.assembledAt k ∧
      t.el.csrRdata = t.wires.regV ∧ (b.sel.getLsbD k = false ∨ b.we = true → t.wires.regV = 0) ∧
      t.wires.narrow = narrowBeat s.cfg true k b := by
  have performs := State.brPerform_lane (s := s.load) hk hack hcnt b
  obtain ⟨registered, unread⟩ := State.issueLane_csrRdata
    (s.load.withAssembly (s.assembledAt k) { ack := false, datR := s.el.brDat }) k b.adr b.sel b.we b.datW rfl
  have regV := h.regV
  have csrRdata := h.csrRdata
  rw [performs] at regV csrRdata
  refine ⟨?cnt, ?ack, ?dat, ?byte, fun idle => regV.trans (unread idle), ?narrow⟩
  case cnt =>
    rw [h.brCnt, performs]
    rfl
  case ack =>
    rw [h.brAck, performs]
    exact (State.issueLane_brAck _ _ _ _ _ _).trans hack
  case dat =>
    rw [h.brDat, performs]
    exact State.issueLane_brDat _ _ _ _ _ _
  case byte => exact csrRdata.trans (registered.trans regV.symm)
  case narrow =>
    rw [h.narrow, hack, hcnt]
    interval_cases k <;> rfl

/-- The clock cycle after the lanes (R198). -/
theorem RegisterCycle.collect (hack : s.el.brAck = false) (hcnt : s.el.brCnt = 4#3) :
    t.el.brCnt = 0#3 ∧ t.el.brAck = true ∧ t.el.brDat = s.assembledAt 4 ∧
      t.wires.narrow = narrowBeat s.cfg false 0 b := by
  have performs := State.brPerform_collect (s := s.load) hack hcnt b
  rw [h.brCnt, h.brAck, h.brDat, h.narrow, performs, hack, hcnt]
  exact ⟨rfl, rfl, rfl, rfl⟩

/-- The acknowledge (R199). -/
theorem RegisterCycle.acknowledge (hack : s.el.brAck = true) (hcnt : s.el.brCnt = 0#3) :
    t.el.brCnt = 0#3 ∧ t.el.brAck = false ∧ t.wires.narrow = narrowBeat s.cfg false 0 b := by
  have performs := State.brPerform_ack (s := s.load) hack b
  rw [h.brCnt, h.brAck, h.narrow, performs, hack, hcnt]
  exact ⟨rfl, rfl, rfl⟩

end

/-- After `n` clock cycles from `s`, in all of which port `m` holds the bus, the fabric is in state `u`. -/
structure HeldRun (s : State) (m : Master) (n : Nat) (u : State) : Prop where
  run : runFor n s = .next u
  cfg : u.cfg = s.cfg
  grant : u.el.grant = m
  requestAt : ∀ k, u.requestAt m k = s.requestAt m (n + k)

/-- While the port holds its beat, each further clock cycle is one of the Bridge's. -/
theorem HeldRun.next {s u : State} {m : Master} {b : Request} {n : Nat} (h : HeldRun s m n u) (hl : s.cfg.legal = true)
    (beat : strobed b = true) (hsel : selCsr s.cfg b.adr = true) (now : s.requestAt m n = b) :
    ∃ t, HeldRun s m (n + 1) t ∧ RegisterCycle m b u t := by
  obtain ⟨t, cycle⟩ := registerCycle_of_beat (h.cfg ▸ hl) h.grant ((h.requestAt 0).trans now) beat (h.cfg ▸ hsel)
  have held := cycle.held
  refine ⟨t, ⟨?_, held.cfg.trans h.cfg, held.grant, fun k => ?_⟩, cycle⟩
  · rw [runFor_succ_of_last h.run, runFor_one_of_step held.step]
  · rw [held.requestAt k, h.requestAt, Nat.add_comm k 1, Nat.add_assoc]

/-- Settles O33: four lanes, the collect and the acknowledge, one clock cycle each; the four lane writes make up the word. -/
theorem bridgeTransactionTakesSixClockCycles : Obligations.BridgeTransactionTakesSixClockCycles := by
  intro s m b inv hg hcnt hack hcyc hstb hsel held
  have hl := inv.legal
  have beat : strobed b = true := Bool.and_eq_true_iff.mpr ⟨hcyc, hstb⟩
  have start : HeldRun s m 0 s := ⟨rfl, rfl, hg, fun k => by rw [Nat.zero_add]⟩
  obtain ⟨t1, run1, cycle1⟩ := start.next hl beat hsel (held 0 (by decide))
  obtain ⟨t2, run2, cycle2⟩ := run1.next hl beat hsel (held 1 (by decide))
  obtain ⟨t3, run3, cycle3⟩ := run2.next hl beat hsel (held 2 (by decide))
  obtain ⟨t4, run4, cycle4⟩ := run3.next hl beat hsel (held 3 (by decide))
  obtain ⟨t5, run5, cycle5⟩ := run4.next hl beat hsel (held 4 (by decide))
  obtain ⟨t6, run6, cycle6⟩ := run5.next hl beat hsel (held 5 (by decide))
  obtain ⟨cnt1, ack1, _, byte1, unread1, narrow1⟩ := cycle1.lane (k := 0) (by decide) hack hcnt
  obtain ⟨cnt2, ack2, dat2, byte2, unread2, narrow2⟩ := cycle2.lane (k := 1) (by decide) ack1 cnt1
  obtain ⟨cnt3, ack3, dat3, byte3, unread3, narrow3⟩ := cycle3.lane (k := 2) (by decide) ack2 cnt2
  obtain ⟨cnt4, ack4, dat4, byte4, unread4, narrow4⟩ := cycle4.lane (k := 3) (by decide) ack3 cnt3
  obtain ⟨cnt5, ack5, dat5, narrow5⟩ := cycle5.collect ack4 cnt4
  obtain ⟨cnt6, ack6, narrow6⟩ := cycle6.acknowledge ack5 cnt5
  rw [run1.cfg] at narrow2
  rw [run2.cfg] at narrow3
  rw [run3.cfg] at narrow4
  rw [run4.cfg] at narrow5
  rw [run5.cfg] at narrow6
  have silent {u t : State} (cycle : RegisterCycle m b u t) (ack : u.el.brAck = false) :
      (t.out.master m).ack = false ∧ (t.out.master m).err = false := by
    rw [cycle.response]
    exact ⟨ack, rfl⟩
  have lanes : t5.el.brDat =
      setLane (setLane (setLane (setLane t1.el.brDat 0 t1.wires.regV) 1 t2.wires.regV) 2 t3.wires.regV) 3 t4.wires.regV := by
    simp only [dat5, dat4, dat3, dat2, State.assembledAt, byte1, byte2, byte3, byte4]
  have word : t5.el.brDat = t4.wires.regV ++ (t3.wires.regV ++ (t2.wires.regV ++ t1.wires.regV)) := by
    rw [lanes, setLane_four]
  refine ⟨t1, t2, t3, t4, t5, t6, run1.run, run2.run, run3.run, run4.run, run5.run, run6.run, ?silent, narrow1, narrow2,
    narrow3, narrow4, narrow5, narrow6, ?ack, ?err, word, ?write, ?unselected, ?data, run6.grant, cnt6, ack6⟩
  case silent =>
    simp only [List.forall_mem_cons]
    exact ⟨silent cycle1 hack, silent cycle2 ack1, silent cycle3 ack2, silent cycle4 ack3, silent cycle5 ack4,
      List.forall_mem_nil _⟩
  case ack =>
    rw [cycle6.response]
    exact ack5
  case err => rw [cycle6.response]
  case data => exact fun _ => by rw [cycle6.response]
  case write =>
    intro hwe
    rw [lanes, unread1 (.inr hwe), unread2 (.inr hwe), unread3 (.inr hwe), unread4 (.inr hwe), setLane_four]
    rfl
  case unselected =>
    intro k hk hns
    rw [lanes]
    interval_cases k
    · simp [lane_setLane, unread1 (.inl hns)]
    · simp [lane_setLane, unread2 (.inl hns)]
    · simp [lane_setLane, unread3 (.inl hns)]
    · simp [lane_setLane, unread4 (.inl hns)]

end Sys2Proof.Machine

/-! The UART's FIFOs (43_uart_fifo.md R222 to R246): the four operations of a FIFO and its flags, and the halves of these
operations that the registers and the transceiver perform. -/

namespace Sys2Proof.Machine

/-! The two halves of a FIFO's operation, and the whole operation by its key (R103, R224, R226). -/

theorem State.rxPush_eq (s : State) (e : RxEntry) :
    s.rxPush e =
      { s with el := { s.el with rxFifo := s.el.rxFifo ++ [e], rxVis := s.el.rxVis.bump s.cfg.fifoMode true false } } := rfl

theorem State.rxPop_eq (s : State) :
    s.rxPop =
      { s with
        el := { s.el with rxFifo := s.el.rxFifo.tail, rxVis := s.el.rxVis.bump s.cfg.fifoMode false true }
        wires := { s.wires with rxRData := s.el.rxFifo.headD (Free.rxEntry s.tick) } } := rfl

theorem State.txPush_eq (s : State) (e : TxEntry) :
    s.txPush e =
      { s with el := { s.el with txFifo := s.el.txFifo ++ [e], txVis := s.el.txVis.bump s.cfg.fifoMode true false } } := rfl

theorem State.txPop_eq (s : State) :
    s.txPop =
      { s with
        el := { s.el with txFifo := s.el.txFifo.tail, txVis := s.el.txVis.bump s.cfg.fifoMode false true }
        wires := { s.wires with txRData := s.el.txFifo.headD (Free.txEntry s.tick) } } := rfl

/-- `rx_fifo`'s operation of any key, with its frame: the list, the counters, and the entry that a pop hands over. -/
theorem exec_decodeFIFO_rx_eq (s : State) (doWrite doRead : Bool) (e : RxEntry) :
    exec (decodeFIFO .rx doWrite doRead e) s =
      .next { s with
        el := { s.el with
          rxFifo := fifoAfter s.el.rxFifo doWrite doRead e
          rxVis := visAfter s.cfg.fifoMode s.el.rxVis s.tick 0 doWrite doRead }
        wires := { s.wires with
          rxRData := if doRead then s.el.rxFifo.headD (Free.rxEntry s.tick) else s.wires.rxRData } } := by
  cases doWrite <;> cases doRead
  case false.false =>
    show Host.Outcome.next (s.rxReveal s.el.rxVis) = _
    simp [State.rxReveal, State.setRxVis, fifoAfter, visAfter]
  case false.true =>
    show Host.Outcome.next (s.rxPop.rxReveal s.el.rxVis) = _
    simp [State.rxReveal, State.setRxVis, fifoAfter, visAfter, State.rxPop_eq]
  case true.false =>
    show Host.Outcome.next ((s.rxPush e).rxReveal s.el.rxVis) = _
    simp [State.rxReveal, State.setRxVis, fifoAfter, visAfter, State.rxPush_eq]
  case true.true =>
    show Host.Outcome.next ((s.rxPop.rxPush e).rxReveal s.el.rxVis) = _
    simp [State.rxReveal, State.setRxVis, fifoAfter, visAfter, State.rxPush_eq, State.rxPop_eq, Vis.bump_bump]

/-- `tx_fifo`'s operation of any key, with its frame; an entry is the operand's low byte (R102). -/
theorem exec_decodeFIFO_tx_eq (s : State) (doWrite doRead : Bool) (e : RxEntry) :
    exec (decodeFIFO .tx doWrite doRead e) s =
      .next { s with
        el := { s.el with
          txFifo := fifoAfter s.el.txFifo doWrite doRead (e.extractLsb' 0 8)
          txVis := visAfter s.cfg.fifoMode s.el.txVis s.tick 2 doWrite doRead }
        wires := { s.wires with
          txRData := if doRead then s.el.txFifo.headD (Free.txEntry s.tick) else s.wires.txRData } } := by
  rw [← BitVec.setWidth_eq_extractLsb' (by decide)]
  cases doWrite <;> cases doRead
  case false.false =>
    show Host.Outcome.next (s.txReveal s.el.txVis) = _
    simp [State.txReveal, State.setTxVis, fifoAfter, visAfter]
  case false.true =>
    show Host.Outcome.next (s.txPop.txReveal s.el.txVis) = _
    simp [State.txReveal, State.setTxVis, fifoAfter, visAfter, State.txPop_eq]
  case true.false =>
    show Host.Outcome.next ((s.txPush (e.setWidth 8)).txReveal s.el.txVis) = _
    simp [State.txReveal, State.setTxVis, fifoAfter, visAfter, State.txPush_eq]
  case true.true =>
    show Host.Outcome.next ((s.txPop.txPush (e.setWidth 8)).txReveal s.el.txVis) = _
    simp [State.txReveal, State.setTxVis, fifoAfter, visAfter, State.txPush_eq, State.txPop_eq, Vis.bump_bump]

/-- The counters that a FIFO's clock cycle leaves are among those that R226 allows. -/
theorem visAfter_after (mode : FifoMode) (v : Vis) (t k : Nat) (doWrite doRead : Bool) :
    v.after mode doWrite doRead (visAfter mode v t k doWrite doRead) :=
  v.reveal_bump mode doWrite doRead _ _

theorem headD_of_eq_cons {α : Type} {l : List α} (d e : α) (rest : List α) (h : l = e :: rest) : l.headD d = e := by
  rw [h, List.headD_cons]

/-- Settles O35: each operation is that of its FIFO and key, whose list is `fifoAfter` and whose counters are `visAfter`. -/
theorem fifoOperationsKeepTheQueue : Obligations.FifoOperationsKeepTheQueue := by
  intro s w
  have rx := exec_decodeFIFO_rx_eq s
  have tx := exec_decodeFIFO_tx_eq s
  have vis := visAfter_after s.cfg.fifoMode
  refine ⟨⟨_, rx false false w, ?_, vis _ _ _ _ _⟩, ⟨_, tx false false w, ?_, vis _ _ _ _ _⟩,
    ⟨_, rx true false w, ?_, vis _ _ _ _ _⟩, ⟨_, tx true false w, ?_, vis _ _ _ _ _⟩,
    ⟨_, rx false true w, ?_, headD_of_eq_cons _, vis _ _ _ _ _⟩,
    ⟨_, tx false true w, ?_, headD_of_eq_cons _, vis _ _ _ _ _⟩,
    ⟨_, rx true true w, ?_, headD_of_eq_cons _, vis _ _ _ _ _⟩,
    ⟨_, tx true true w, ?_, headD_of_eq_cons _, vis _ _ _ _ _⟩⟩
  all_goals simp [fifoAfter]

/-! The flags (R222, R223). -/

theorem writeReady_exact {depth len : Nat} {v : Vis} : writeReady .exactFlags depth len v = true ↔ len < depth :=
  decide_eq_true_iff

theorem readReady_exact {len : Nat} {v : Vis} : readReady .exactFlags len v = true ↔ 0 < len := decide_eq_true_iff

theorem writeReady_lagging {depth len : Nat} {v : Vis} :
    writeReady .laggingFlags depth len v = true ↔ len + v.hidR < depth :=
  decide_eq_true_iff

theorem readReady_lagging {len : Nat} {v : Vis} : readReady .laggingFlags len v = true ↔ v.hidW < len :=
  decide_eq_true_iff.trans Nat.sub_pos_iff_lt

/-- `w_rdy` promises a free slot that is there (R222). -/
theorem writeReady_lt {mode : FifoMode} {depth len : Nat} {v : Vis} (h : writeReady mode depth len v = true) : len < depth := by
  cases mode with
  | exactFlags => exact writeReady_exact.mp h
  | laggingFlags => exact Nat.lt_of_le_of_lt (Nat.le_add_right _ _) (writeReady_lagging.mp h)

/-- `r_rdy` promises an entry that is there (R223). -/
theorem readReady_pos {mode : FifoMode} {len : Nat} {v : Vis} (h : readReady mode len v = true) : 0 < len := by
  cases mode with
  | exactFlags => exact readReady_exact.mp h
  | laggingFlags => exact Nat.zero_lt_of_lt (readReady_lagging.mp h)

section
variable {s : State} (exactMode : s.cfg.fifoMode = .exactFlags)
include exactMode

/-- In exact mode `rx_fifo`'s flags after its operation are two comparisons of the count (R222, R223). -/
theorem exec_decodeFIFO_rx_flags (doWrite doRead : Bool) (e : RxEntry) :
    ∃ t, exec (decodeFIFO .rx doWrite doRead e) s = .next t ∧
      (t.rxReadReady = true ↔ 0 < s.el.rxFifo.length - doRead.toNat + doWrite.toNat) ∧
      (t.rxWriteReady = true ↔ s.el.rxFifo.length - doRead.toNat + doWrite.toNat < s.cfg.rxDepth) := by
  refine ⟨_, exec_decodeFIFO_rx_eq s doWrite doRead e, ?read, ?write⟩
  case read =>
    show readReady s.cfg.fifoMode _ _ = true ↔ _
    rw [exactMode, readReady_exact, length_fifoAfter]
  case write =>
    show writeReady s.cfg.fifoMode _ _ _ = true ↔ _
    rw [exactMode, writeReady_exact, length_fifoAfter]

/-- The same for `tx_fifo`. -/
theorem exec_decodeFIFO_tx_flags (doWrite doRead : Bool) (e : RxEntry) :
    ∃ t, exec (decodeFIFO .tx doWrite doRead e) s = .next t ∧
      (t.txReadReady = true ↔ 0 < s.el.txFifo.length - doRead.toNat + doWrite.toNat) ∧
      (t.txWriteReady = true ↔ s.el.txFifo.length - doRead.toNat + doWrite.toNat < s.cfg.txDepth) := by
  refine ⟨_, exec_decodeFIFO_tx_eq s doWrite doRead e, ?read, ?write⟩
  case read =>
    show readReady s.cfg.fifoMode _ _ = true ↔ _
    rw [exactMode, readReady_exact, length_fifoAfter]
  case write =>
    show writeReady s.cfg.fifoMode _ _ _ = true ↔ _
    rw [exactMode, writeReady_exact, length_fifoAfter]

end

/-- Settles O36: `w_rdy` and `r_rdy` compare the count; in exact mode nothing is hidden, and a push or a pop moves the count by
one. -/
theorem fifoFlagsNeverOverpromise : Obligations.FifoFlagsNeverOverpromise := by
  refine ⟨fun depth len v => ⟨writeReady_exact, readReady_exact, writeReady_lagging, readReady_lagging,
    fun mode => ⟨writeReady_lt, readReady_pos⟩⟩,
    fun s w exactMode => ⟨?rxPush, ?txPush, fun filled fits => ?rxPop, fun filled fits => ?txPop⟩⟩
  case rxPush =>
    obtain ⟨t, run, read, write⟩ := exec_decodeFIFO_rx_flags exactMode true false w
    exact ⟨t, run, read.mpr (Nat.succ_pos _), write⟩
  case txPush =>
    obtain ⟨t, run, read, write⟩ := exec_decodeFIFO_tx_flags exactMode true false w
    exact ⟨t, run, read.mpr (Nat.succ_pos _), write⟩
  case rxPop =>
    obtain ⟨t, run, read, write⟩ := exec_decodeFIFO_rx_flags exactMode false true w
    exact ⟨t, run, write.mpr (Nat.lt_of_lt_of_le (Nat.sub_lt filled Nat.one_pos) fits), read.trans Nat.sub_pos_iff_lt⟩
  case txPop =>
    obtain ⟨t, run, read, write⟩ := exec_decodeFIFO_tx_flags exactMode false true w
    exact ⟨t, run, write.mpr (Nat.lt_of_lt_of_le (Nat.sub_lt filled Nat.one_pos) fits), read.trans Nat.sub_pos_iff_lt⟩

/-! The register operations on the FIFOs (R232, R233, R235, R236). -/

/-- While `rx_fifo` is ready to read, it shows its oldest entry (R241). -/
theorem State.rxRData_of_ready {s : State} {e : RxEntry} {rest : List RxEntry} (ready : s.rxReadReady = true)
    (held : s.el.rxFifo = e :: rest) : s.rxRData = e := by
  rw [State.rxRData, if_pos ready, headD_of_eq_cons _ _ _ held]

/-- Settles O29: RX_INFO is at none of CTRL's bytes, and its read shows the flags of what the FIFO shows. -/
theorem receiveInfoShowsTheOldestFlags : Obligations.ReceiveInfoShowsTheOldestFlags := by
  intro s
  have read : exec .rxInfoRd s = .next (s.driveRegV (rxInfoByte (rxEntryFlags s.rxRData) s.rxReadReady)) := rfl
  refine ⟨fun hl => ?key, fun e rest ready held => ?ready, fun notReady => ⟨rxEntryFlags s.rxRData, ?free⟩⟩
  case key =>
    obtain ⟨_, inside, _⟩ := Config.registers_inside hl
    have address := toNat_narrow hl inside
    have noCtrl := (Config.registersApart hl).rxInfo
    rw [decodeREG_read, if_pos address]
    rwa [ctrlByteAt_eq_none_iff, address]
  case ready =>
    rw [read, ready, State.rxRData_of_ready ready held]
    rfl
  case free =>
    rw [read, notReady]
    rfl

/-- Settles O30: the read pops where the FIFO is ready, and what it shows is then the entry popped. -/
theorem receiveDataPopsTheOldestEntry : Obligations.ReceiveDataPopsTheOldestEntry := by
  intro s
  have read : exec .rxDataRd s = .next s.readRxData := rfl
  refine ⟨fun e rest ready held => ?ready, fun notReady => ⟨rxEntryData s.rxRData, ?notReady⟩⟩
  case ready =>
    rw [read, State.readRxData, if_pos ready, State.rxRData_of_ready ready held, State.rxPop_eq]
    simp [State.driveRegV, rxEntryData, held]
  case notReady =>
    rw [read, State.readRxData, notReady]
    rfl

/-- Settles O31: TX_DATA.WR is the push half, performed where the FIFO is ready. -/
theorem transmitRegistersReportAndPush : Obligations.TransmitRegistersReportAndPush := by
  intro s data
  have write : exec (.txDataWr data) s = .next (s.writeTxData data) := rfl
  refine ⟨?info, fun ready => ?ready, fun notReady => ?notReady⟩
  case info =>
    have read : exec .txInfoRd s = .next (s.driveRegV (txInfoByte s.txWriteReady)) := rfl
    rw [read]
    cases s.txWriteReady <;> rfl
  case ready => rw [write, State.writeTxData, if_pos ready, State.txPush_eq]
  case notReady => rw [write, State.writeTxData, notReady, if_neg Bool.false_ne_true]

/-! The transceiver's operations (R230, R231, R237, R238, R240, R246). -/

/-- Settles O37: XR's bits are `rx_rdy` and `w_rdy`, and RX.ACCEPT performs the push half. -/
theorem receiverSideAcceptsOrRefuses : Obligations.ReceiverSideAcceptsOrRefuses := by
  intro s data ovf ferr perr
  refine ⟨fun c a side => ?keys, rfl, rfl, rfl⟩
  have key {k : Nat} (h : k < 2 ^ 2) := decode_ux_rx (c := c) h side
  exact ⟨key (by decide), key (by decide), key (by decide), key (by decide)⟩

/-- Settles O38: XT's bits are `tx_rdy` and `r_rdy`; TX.PULL performs the pop half, and the byte it shows is the one popped. -/
theorem transmitterSidePullsOrWaits : Obligations.TransmitterSidePullsOrWaits := by
  intro s c a
  refine ⟨fun side => ?keys, ⟨s.txRDataIf true, rfl, rfl, headD_of_eq_cons _⟩, ⟨_, rfl⟩, ⟨_, rfl⟩⟩
  have key {k : Nat} (h : k < 2 ^ 2) := decode_ux_tx (c := c) h side
  exact ⟨key (by decide), key (by decide), key (by decide), key (by decide)⟩

end Sys2Proof.Machine

/-! The Address Decoder (44_decoder.md R262 to R267): the slaves' operations by their keys, and the response. -/

namespace Sys2Proof.Machine

/-! The address's select (R262). -/

theorem decodeMiss_iff {c : Config} {adr : Adr} : decodeMiss c adr = true ↔ selMem c adr = false ∧ selCsr c adr = false := by
  simp [decodeMiss]

/-! The slaves' operations in the Decoder's clock cycle (R160, R192, R266). -/

/-- The Memory Controller performs the operation its key selects (R103, R160). -/
theorem exec_decodeMC (s : State) (beat : Bool) (d : Request) :
    exec (decodeMC (decide (s.el.mcState = .cycle)) beat (downstreamArgs d)) s = .next (s.mcPerform beat d) := by
  rcases s.mcPerform_cases beat d with ⟨hs, hb, h⟩ | ⟨hs, hb, h⟩ | ⟨hs, hb, h⟩ | ⟨hs, hb, h⟩ <;>
    rw [h, hs, hb] <;> rfl

/-- The Bridge performs the operation its key selects (R103, R192), and shows the lane of its own port's request: an operation
without operands, run alone, shows that of the granted port. -/
theorem exec_decodeBR (s : State) (beat : Bool) (d : Request) :
    ∃ w, exec (decodeBR beat s.el.brAck s.el.brCnt (downstreamArgs d)) s = .next w ∧
      s.brPerform beat d = w.driveNarrow (s.brPerform beat d).wires.narrow := by
  unfold decodeBR State.brPerform
  split_ifs <;> exact ⟨_, rfl, rfl⟩

/-- The Bridge drives no output and not the controller's port (R192). -/
theorem State.brPerform_signals (s : State) (beat : Bool) (d : Request) :
    (s.brPerform beat d).out = s.out ∧ (s.brPerform beat d).wires.p = s.wires.p := by
  have beside : s.brPerform beat d = (s.brPerform beat d).besideBridge s.el s.out s.wires.p :=
    s.brPerform_besideBridge s.el s.out s.wires.p beat d
  rw [beside]
  exact ⟨rfl, rfl⟩

/-- The two slaves' clock cycle is their keys' operations, the controller's first, with the request's lane on the narrow bus
(R192, R266). -/
theorem State.slaves_perform (s : State) (mcBeat brBeat : Bool) (d : Request) :
    ∃ u w, exec (decodeMC (decide (s.el.mcState = .cycle)) mcBeat (downstreamArgs d)) s = .next u ∧
      exec (decodeBR brBeat u.el.brAck u.el.brCnt (downstreamArgs d)) u = .next w ∧
      w.out = s.out ∧ w.wires.p = u.wires.p ∧
      (s.mcPerform mcBeat d).brPerform brBeat d =
        w.driveNarrow (narrowBeat s.cfg (brBeat && !s.el.brAck && decide (s.el.brCnt.toNat ≤ 3)) (s.el.brCnt.toNat % 4) d) := by
  obtain ⟨w, hw, performs⟩ := exec_decodeBR (s.mcPerform mcBeat d) brBeat d
  obtain ⟨out, port⟩ := (s.mcPerform mcBeat d).brPerform_signals brBeat d
  obtain ⟨mcOut, _⟩ := s.mcPerform_signals mcBeat d
  have narrow := (s.mcPerform mcBeat d).brPerform_narrow brBeat d
  rw [State.mcPerform_cfg, State.mcPerform_el] at narrow
  rw [narrow] at performs
  rw [performs] at out port
  exact ⟨_, w, exec_decodeMC s mcBeat d, hw, out.trans mcOut, port, performs⟩

/-! The response multiplexer (R267). -/

/-- DEC.MISS drives `err` for a beat, and nothing else (R265, R321). -/
theorem State.routeMiss_eq (s : State) (d : Request) :
    s.routeMiss d = ((s.mcPerform false d).brPerform false d).driveD { ack := false, err := strobed d, datR := 0 } := by
  unfold State.routeMiss
  cases strobed d <;> rfl

/-- Settles O42: a route is the two slaves' operations with the Decoder's response driven after them. -/
theorem decoderRoutesTheRequest : Obligations.DecoderRoutesTheRequest := by
  intro s d
  refine ⟨decodeDEC_mem, fun hl => decodeDEC_csr hl, fun hmem hcsr => decodeDEC_miss (decodeMiss_iff.mpr ⟨hmem, hcsr⟩),
    ?mem, ?csr, ?miss⟩
  case mem =>
    obtain ⟨u, w, mc, br, out, port, slaves⟩ := s.slaves_perform (strobed d) false d
    refine ⟨s.routeMem d, u, w, rfl, mc, br, s.routeMem_context d, ?_⟩
    rw [State.routeMem, slaves, ← port]
    exact ⟨out, rfl, rfl⟩
  case csr =>
    obtain ⟨u, w, mc, br, out, _, slaves⟩ := s.slaves_perform false (strobed d) d
    refine ⟨s.routeCsr d, u, w, rfl, mc, br, s.routeCsr_context d, ?_⟩
    rw [State.routeCsr, slaves]
    exact ⟨out, rfl, rfl⟩
  case miss =>
    obtain ⟨u, w, mc, br, out, _, slaves⟩ := s.slaves_perform false false d
    refine ⟨s.routeMiss d, u, w, rfl, mc, br, s.routeMiss_context d, ?_⟩
    rw [State.routeMiss_eq, slaves]
    exact ⟨out, rfl, rfl⟩

/-! The granted port's beat to an unmapped address (R265, R321). -/

section
variable {s : State} {b : Request} (h : decodeMiss s.cfg b.adr = true)
include h

theorem State.decPerform_miss : s.decPerform b = s.routeMiss b := by
  obtain ⟨hmem, hcsr⟩ := decodeMiss_iff.mp h
  rw [State.decPerform, hmem, hcsr, if_neg Bool.false_ne_true, if_neg Bool.false_ne_true]

/-- A miss brings both slaves to rest, with or without a beat (R265). -/
theorem State.decPerform_el_miss :
    (s.decPerform b).el = { s.el with mcState := .idle, brCnt := 0, brAck := false, csrRdata := 0 } := by
  rw [State.decPerform_miss h, State.routeMiss_el, State.brPerform_no_beat, State.brIdle_el, State.mcPerform_no_beat_el]

/-- A miss answers a beat with `err`, and with no data (R265). -/
theorem State.decPerform_response_miss : (s.decPerform b).wires.d = { ack := false, err := strobed b, datR := 0 } := by
  rw [State.decPerform_miss h, State.routeMiss_response]

end

/-- Settles O50: the beat keeps `cyc`, and with it the grant, as WB.WAIT does; both leave the slaves at rest. -/
theorem unmappedBeatGetsErrAndNoEffect : Obligations.UnmappedBeatGetsErrAndNoEffect := by
  intro s m adr sel datW hg hmiss p hp
  obtain ⟨b, hexec, hbeat, rfl⟩ := exec_beats s m adr sel datW p hp
  have beat := State.portCycle_granted hg b
  have wait := State.portCycle_granted hg (waitRequest b.adr (s.selLines m) (s.datLines m))
  have response := State.decPerform_response_miss hmiss
  rw [hbeat] at response
  have beatEl := (beat.el_of_cyc hg (Bool.and_eq_true_iff.mp hbeat).1).trans (State.decPerform_el_miss hmiss)
  have waitEl := (wait.el_of_cyc hg rfl).trans (State.decPerform_el_no_beat rfl)
  exact ⟨_, _, hexec, rfl, beat.context, by rw [beat.response, response], by rw [beat.otherResponse, response],
    beatEl.trans waitEl.symm, beatEl⟩

end Sys2Proof.Machine

/-! The Arbiter (45_arbiter.md R281 to R291): its operations, the grant from one clock cycle to the next, and what the port that is
not granted has no influence on. -/

namespace Sys2Proof.Machine

/-! The waiting port's lines (R281, R291). No operation inside a clock cycle reads the inputs but through the granted port's request,
the ports' `cyc` and the transceiver's lines, so the others may be exchanged: the clock cycle's operations commute with it. -/

/-- `s` with other inputs, in the clock cycles to come and in the current one. -/
def State.withInputs (s : State) (script : List Row) (inp : Row) : State := { s with script := script, inp := inp }

section
variable (s : State) (script : List Row) (inp : Row)

@[simp] theorem State.withInputs_cfg : (s.withInputs script inp).cfg = s.cfg := rfl
@[simp] theorem State.withInputs_el : (s.withInputs script inp).el = s.el := rfl
@[simp] theorem State.withInputs_rxReadReady : (s.withInputs script inp).rxReadReady = s.rxReadReady := rfl
@[simp] theorem State.withInputs_txWriteReady : (s.withInputs script inp).txWriteReady = s.txWriteReady := rfl

theorem State.readRxData_withInputs :
    (s.withInputs script inp).readRxData = s.readRxData.withInputs script inp := by
  rw [State.readRxData, State.readRxData, State.withInputs_rxReadReady]
  split_ifs <;> rfl

theorem State.writeTxData_withInputs (data : Byte) :
    (s.withInputs script inp).writeTxData data = (s.writeTxData data).withInputs script inp := by
  rw [State.writeTxData, State.writeTxData, State.withInputs_txWriteReady]
  split_ifs <;> rfl

theorem State.regRead_withInputs (addr : NarrowAdr) :
    (s.withInputs script inp).regRead addr = (s.regRead addr).withInputs script inp := by
  cases h : ctrlByteAt s.cfg addr with
  | some j =>
    rw [State.regRead_ctrl h, State.regRead_ctrl (s := s.withInputs script inp) h]
    rfl
  | none =>
    rw [State.regRead_noCtrl h, State.regRead_noCtrl (s := s.withInputs script inp) h, State.withInputs_cfg]
    split_ifs
    · rfl
    · exact s.readRxData_withInputs script inp
    · rfl
    · rfl

theorem State.regWrite_withInputs (addr : NarrowAdr) (data : Byte) :
    (s.withInputs script inp).regWrite addr data = (s.regWrite addr data).withInputs script inp := by
  cases h : ctrlByteAt s.cfg addr with
  | some j =>
    rw [State.regWrite_ctrl data h, State.regWrite_ctrl (s := s.withInputs script inp) data h]
    rfl
  | none =>
    rw [State.regWrite_noCtrl data h, State.regWrite_noCtrl (s := s.withInputs script inp) data h, State.withInputs_cfg]
    split_ifs
    · exact s.writeTxData_withInputs script inp data
    · rfl

theorem State.csrRead_withInputs (addr : NarrowAdr) :
    (s.withInputs script inp).csrRead addr = (s.csrRead addr).withInputs script inp :=
  congrArg (fun t : State => t.setCsrRdata t.wires.regV) (State.regRead_withInputs
    (s.driveNarrow { s.wires.narrow with addr := addr, rStb := true, wStb := false }) script inp addr)

theorem State.csrWrite_withInputs (addr : NarrowAdr) (data : Byte) :
    (s.withInputs script inp).csrWrite addr data = (s.csrWrite addr data).withInputs script inp :=
  congrArg (fun t : State => t.setCsrRdata 0) (State.regWrite_withInputs
    (s.driveNarrow { addr := addr, wStb := true, wData := data }) script inp addr data)

theorem State.issueLane_withInputs (k : Nat) (adr : Adr) (sel : BitVec 4) (we : Bool) (datW : Word) :
    (s.withInputs script inp).issueLane k adr sel we datW = (s.issueLane k adr sel we datW).withInputs script inp := by
  rw [State.issueLane, State.issueLane, State.withInputs_cfg]
  split_ifs
  · exact State.csrWrite_withInputs (s.driveLane k adr datW) script inp _ _
  · exact State.csrRead_withInputs (s.driveLane k adr datW) script inp _
  · rfl

theorem State.brPerform_withInputs (beat : Bool) (b : Request) :
    (s.withInputs script inp).brPerform beat b = (s.brPerform beat b).withInputs script inp := by
  have lane (w : State) (k : Nat) (n : BitVec 3) :
      ((w.withInputs script inp).issueLane k b.adr b.sel b.we b.datW).setBrCnt n =
        ((w.issueLane k b.adr b.sel b.we b.datW).setBrCnt n).withInputs script inp :=
    congrArg (fun t : State => t.setBrCnt n) (w.issueLane_withInputs script inp k b.adr b.sel b.we b.datW)
  rw [State.brPerform, State.brPerform, State.withInputs_el]
  split_ifs
  · rfl
  · rfl
  · exact lane (s.driveBridgePort false) 0 1
  · exact lane ((s.driveBridgePort false).collectLane 0) 1 2
  · exact lane ((s.driveBridgePort false).collectLane 1) 2 3
  · exact lane ((s.driveBridgePort false).collectLane 2) 3 4
  · rfl

/-- The controller's operation is given by the record and the configuration alone. -/
theorem State.mcPerform_withInputs (beat : Bool) (b : Request) :
    (s.withInputs script inp).mcPerform beat b = (s.mcPerform beat b).withInputs script inp := by
  have el : ((s.withInputs script inp).mcPerform beat b).el = (s.mcPerform beat b).el :=
    State.mcPerform_el_congr (s.withInputs_cfg script inp) (s.withInputs_el script inp) beat b
  rw [State.mcPerform_eq_besideBridge, s.mcPerform_eq_besideBridge, el]
  rfl

/-- The slaves' operations of the Decoder's clock cycle. -/
theorem State.slaves_withInputs (mcBeat brBeat : Bool) (b : Request) :
    ((s.withInputs script inp).mcPerform mcBeat b).brPerform brBeat b =
      ((s.mcPerform mcBeat b).brPerform brBeat b).withInputs script inp := by
  rw [State.mcPerform_withInputs, State.brPerform_withInputs]

theorem State.decPerform_withInputs (b : Request) :
    (s.withInputs script inp).decPerform b = (s.decPerform b).withInputs script inp := by
  rw [State.decPerform, State.decPerform, State.withInputs_cfg]
  split_ifs
  · rw [State.routeMem, State.slaves_withInputs]
    rfl
  · rw [State.routeCsr, State.slaves_withInputs]
    rfl
  · rw [State.routeMiss_eq, State.routeMiss_eq, State.slaves_withInputs]
    rfl

theorem State.respond_withInputs (m : Master) :
    (s.withInputs script inp).respond m = (s.respond m).withInputs script inp := by
  cases m <;> rfl

theorem State.wait_withInputs (m : Master) : (s.withInputs script inp).wait m = (s.wait m).withInputs script inp := by
  cases m <;> rfl

theorem State.arbPerform_withInputs (cyc1 cyc0 : Bool) :
    (s.withInputs script inp).arbPerform cyc1 cyc0 = (s.arbPerform cyc1 cyc0).withInputs script inp := by
  unfold State.arbPerform
  rw [State.withInputs_el]
  cases s.el.grant <;> cases cyc1 <;> cases cyc0 <;> rfl

end

/-- Two clock cycles' inputs that differ at most in what the port other than `m` presents, and there not in its `cyc`. -/
structure AlikeFor (m : Master) (r r' : Row) : Prop where
  request : portRequest r' m = portRequest r m
  otherCyc : (portRequest r' m.other).cyc = (portRequest r m.other).cyc
  transceiver : r'.x = r.x

theorem AlikeFor.cyc {m : Master} {r r' : Row} (h : AlikeFor m r r') (n : Master) :
    (portRequest r' n).cyc = (portRequest r n).cyc := by
  have granted := congrArg Request.cyc h.request
  have other := h.otherCyc
  cases m <;> cases n <;> assumption

section
variable {s : State} {inp : Row} (script : List Row) (h : AlikeFor s.el.grant s.inp inp)
include h

/-- The ports' operations do not tell the inputs apart (R281, R291). -/
theorem State.served_withInputs : (s.withInputs script inp).served = s.served.withInputs script inp := by
  have downstream : (s.withInputs script inp).downstream = s.downstream := h.request
  have cyc (m : Master) : (portRequest (s.withInputs script inp).inp m).cyc = (portRequest s.inp m).cyc := h.cyc m
  rw [State.served_eq, State.served_eq, downstream, cyc, cyc, State.withInputs_el, State.wait_withInputs,
    State.decPerform_withInputs, State.respond_withInputs, State.arbPerform_withInputs]

theorem State.rxOp_withInputs : (s.withInputs script inp).rxOp = s.rxOp := by
  change decodeRX inp.x.rxRdy s.rxWriteReady inp.x.rxData inp.x.rxOvf inp.x.rxFerr inp.x.rxPerr = _
  rw [h.transceiver]
  rfl

theorem State.txOp_withInputs : (s.withInputs script inp).txOp = s.txOp := by
  change decodeTX inp.x.txRdy s.txReadReady = _
  rw [h.transceiver]
  rfl

end

theorem exec_decodeRX_withInputs {s t : State} {rdy wRdy : Bool} {data : Byte} {ovf ferr perr : Bool}
    (h : exec (decodeRX rdy wRdy data ovf ferr perr) s = .next t) (script : List Row) (inp : Row) :
    exec (decodeRX rdy wRdy data ovf ferr perr) (s.withInputs script inp) = .next (t.withInputs script inp) := by
  cases rdy <;> cases wRdy <;> cases h <;> rfl

theorem exec_decodeTX_withInputs {s t : State} {rdy rRdy : Bool} (h : exec (decodeTX rdy rRdy) s = .next t)
    (script : List Row) (inp : Row) :
    exec (decodeTX rdy rRdy) (s.withInputs script inp) = .next (t.withInputs script inp) := by
  cases rdy <;> cases rRdy <;> cases h <;> rfl

/-- What a step performs after the ports' operations: the two sides of the transceiver, and the edge (R90, R303). -/
theorem step_after_ports {s t : State} (h : step s = .next t) :
    ∃ c d, exec s.load.rxOp s.load.served = .next c ∧ exec s.load.txOp c = .next d ∧ t = d.edge s.load := by
  obtain ⟨a, b, c, d, ha, hb, hc, hd, hstep⟩ := step_of_legal (step_inversion h).1
  obtain rfl : a = s.load.wait s.load.el.grant.other := by injection ha.symm.trans (exec_waitingOp s.load)
  obtain rfl : b = s.load.served := by injection hb.symm.trans (exec_grantedOp s.load)
  exact ⟨c, d, hc, hd, by injection h.symm.trans hstep⟩

/-- Two steps whose inputs differ in such lines only leave states that differ in their inputs only. -/
theorem step_withInputs {s s' t t' : State} {script : List Row} {inp : Row} (load : s'.load = s.load.withInputs script inp)
    (alike : AlikeFor s.el.grant s.load.inp inp) (h : step s = .next t) (h' : step s' = .next t') :
    t' = t.withInputs script inp := by
  obtain ⟨c, d, hc, hd, rfl⟩ := step_after_ports h
  obtain ⟨c', d', hc', hd', rfl⟩ := step_after_ports h'
  rw [load, State.served_withInputs (s := s.load) script alike, State.rxOp_withInputs (s := s.load) script alike] at hc'
  obtain rfl : c' = c.withInputs script inp := by injection hc'.symm.trans (exec_decodeRX_withInputs hc script inp)
  rw [load, State.txOp_withInputs (s := s.load) script alike] at hd'
  obtain rfl : d' = d.withInputs script inp := by injection hd'.symm.trans (exec_decodeTX_withInputs hd script inp)
  rw [load]
  rfl

/-- A port's request of the clock cycle that a load begins is the script's next one (R108). -/
theorem State.load_request (s : State) (m : Master) : portRequest s.load.inp m = s.requestAt m 0 := by
  show portRequest (s.script.headD {}) m = portRequest (s.script.getD 0 {}) m
  cases s.script <;> rfl

/-- Settles O47: the two loads differ in the waiting port's lines alone, which the step hands on as inputs and nothing else. -/
theorem waitingPortHasNoInfluence : Obligations.WaitingPortHasNoInfluence := by
  intro s s' t t' cfg el tick x request otherCyc hstep hstep'
  have load : s'.load = s.load.withInputs s'.script.tail s'.nextRow :=
    State.eq_of_fields cfg el rfl rfl (by rw [State.load, el]; rfl) rfl tick
  have alike : AlikeFor s.el.grant s.load.inp s'.load.inp :=
    { request := by rw [State.load_request, State.load_request, request]
      otherCyc := by rw [State.load_request, State.load_request, otherCyc]
      transceiver := x }
  rw [step_withInputs load alike hstep hstep']
  exact ⟨rfl, rfl⟩

/-! The grant (R283 to R290). -/

/-- The Arbiter's operation of a clock cycle leaves the grant as the round-robin rule has it, whichever port holds it (R283). -/
theorem State.arbPerform_grantAfter (s : State) :
    (s.arbPerform (portRequest s.inp .m1).cyc (portRequest s.inp .m0).cyc).el.grant =
      grantAfter s.el.grant (portRequest s.inp s.el.grant).cyc (portRequest s.inp s.el.grant.other).cyc := by
  cases hg : s.el.grant with
  | m0 => exact State.arbPerform_grant_m0 hg _ _
  | m1 => exact State.arbPerform_grant_m1 hg _ _

/-- Settles O45: of the clock cycle's operations only the Arbiter's writes the grant. -/
theorem grantFollowsRoundRobin : Obligations.GrantFollowsRoundRobin := by
  intro s t hstep
  obtain ⟨_, el, _⟩ := step_inversion hstep
  rw [el, ← State.load_request, ← State.load_request]
  exact s.load.arbPerform_grantAfter

/-- A step takes one row of the script, so each port's later requests come one clock cycle nearer (R108). -/
theorem step_requestAt {s t : State} (h : step s = .next t) (m : Master) (k : Nat) :
    t.requestAt m k = s.requestAt m (k + 1) := by
  obtain ⟨_, script, _⟩ := step_transceiver h
  simp only [State.requestAt, State.rowAt, script]
  cases s.script <;> rfl

/-- Settles O46, by induction on the clock cycles in which the holder has `cyc`: each keeps the grant, the one after them passes it
on. -/
theorem requesterIsConnectedAfterTheHolder : Obligations.RequesterIsConnectedAfterTheHolder := by
  intro s u
  induction u generalizing s with
  | zero =>
    intro hl requests _ lowers
    obtain ⟨t, hstep, _⟩ := step_next hl
    have grant : t.el.grant = s.el.grant.other := by
      rw [grantFollowsRoundRobin s t hstep, lowers, requests 0 (Nat.le_refl 0)]
      rfl
    refine ⟨fun k hk => ?_, t, runFor_one_of_step hstep, grant⟩
    obtain rfl : k = 0 := Nat.le_zero.mp hk
    exact ⟨s, rfl, rfl⟩
  | succ u ih =>
    intro hl requests holds lowers
    obtain ⟨t, hstep, _, cfg, _⟩ := step_next hl
    have grant : t.el.grant = s.el.grant := by
      rw [grantFollowsRoundRobin s t hstep, holds 0 u.succ_pos]
      rfl
    have later := step_requestAt hstep
    obtain ⟨kept, v, hrun, connected⟩ := ih t (cfg ▸ hl)
      (fun k hk => by rw [grant, later]; exact requests _ (Nat.succ_le_succ hk))
      (fun k hk => by rw [grant, later]; exact holds _ (Nat.succ_lt_succ hk))
      (by rw [grant, later]; exact lowers)
    refine ⟨fun k hk => ?_, v, (runFor_succ_of_step hstep).trans hrun, connected.trans (congrArg Master.other grant)⟩
    cases k with
    | zero => exact ⟨s, rfl, rfl⟩
    | succ k =>
      obtain ⟨w, hw, still⟩ := kept k (Nat.le_of_succ_le_succ hk)
      exact ⟨w, (runFor_succ_of_step hstep).trans hw, still.trans grant⟩

/-- Settles O44: AK's bits are the grant and the two `cyc`, and each operation is the write of the grant that its rule names. -/
theorem arbiterHoldsSwitchesParks : Obligations.ArbiterHoldsSwitchesParks := by
  intro s c a
  have arb (key : Nat) (h : key < 2 ^ 3) := decode_arb (c := c) (a := a) h
  simp only [List.forall_mem_cons]
  exact ⟨⟨arb 0b001 (by decide), arb 0b011 (by decide), List.forall_mem_nil _⟩,
    ⟨arb 0b110 (by decide), arb 0b111 (by decide), List.forall_mem_nil _⟩, arb 0b010 (by decide), arb 0b101 (by decide),
    arb 0b000 (by decide), arb 0b100 (by decide), rfl, rfl, rfl, rfl, rfl, rfl⟩

end Sys2Proof.Machine

/-! One clock cycle against the flattened step function (46_top.md R302, R303): the combinational signals, the Bridge's elements
by R192's signals, the outputs. -/

namespace Sys2Proof.Machine

/-! The registers behind the narrow bus (R201, R202, R207, R208). -/

section
variable {s : State} (hl : s.cfg.legal = true) (addr : NarrowAdr)
include hl

/-- A byte of CTRL has the number of its address within the register: there are at most four (R35). -/
theorem ctrlByteAt_offset {j : BitVec 2} (h : ctrlByteAt s.cfg addr = some j) :
    (s.cfg.offCtrl ≤ addr.toNat ∧ addr.toNat < s.cfg.offCtrl + s.cfg.ctrlBytes) ∧ j.toNat = addr.toNat - s.cfg.offCtrl := by
  obtain ⟨present, address⟩ := (ctrlByteAt_eq_some_iff hl).mp h
  omega

/-- The byte that a register read yields (R201, R206, R207, R232, R235, R236). -/
theorem State.regRead_regV :
    (s.regRead addr).wires.regV =
      if s.cfg.offCtrl ≤ addr.toNat ∧ addr.toNat < s.cfg.offCtrl + s.cfg.ctrlBytes then
        lane s.el.divisor (addr.toNat - s.cfg.offCtrl)
      else if addr.toNat = s.cfg.offRxInfo then rxInfoByte (rxEntryFlags s.rxRData) s.rxReadReady
      else if addr.toNat = s.cfg.offRxData then rxEntryData s.rxRData
      else if addr.toNat = s.cfg.offTxInfo then txInfoByte s.txWriteReady
      else 0 := by
  cases h : ctrlByteAt s.cfg addr with
  | some j =>
    obtain ⟨inside, offset⟩ := ctrlByteAt_offset hl addr h
    rw [State.regRead_ctrl h, if_pos inside, ← offset]
    rfl
  | none =>
    rw [State.regRead_noCtrl h, if_neg (ctrlByteAt_eq_none_iff.mp h)]
    split_ifs
    · rfl
    · exact s.readRxData_regV
    · rfl
    · rfl

/-- The divisor that a register write leaves (R202, R208, R213, R233). -/
theorem State.regWrite_divisor (data : Byte) :
    (s.regWrite addr data).el.divisor =
      if s.cfg.offCtrl ≤ addr.toNat ∧ addr.toNat < s.cfg.offCtrl + s.cfg.ctrlBytes then
        BitVec.ofNat 32 ((setLane s.el.divisor (addr.toNat - s.cfg.offCtrl) data).toNat % 2 ^ s.cfg.divisorWidth)
      else s.el.divisor := by
  cases h : ctrlByteAt s.cfg addr with
  | some j =>
    obtain ⟨inside, offset⟩ := ctrlByteAt_offset hl addr h
    rw [State.regWrite_ctrl data h, if_pos inside, ← offset]
    rfl
  | none =>
    rw [State.regWrite_noCtrl data h, if_neg (ctrlByteAt_eq_none_iff.mp h), State.writeTxData]
    split_ifs <;> rfl

end

section
variable (s : State) (k : Nat) (adr : Adr) (sel : BitVec 4) (we : Bool) (datW : Word)

/-- A lane's clock cycle registers the byte its narrow read yields, or 0 (R201 to R203). -/
theorem State.issueLane_registers :
    (s.issueLane k adr sel we datW).el.csrRdata =
      if sel.getLsbD k && !we then (s.regRead (narrowAddr s.cfg adr k)).wires.regV else 0 := by
  rcases s.issueLane_cases k adr sel we datW with ⟨hs, hw, h⟩ | ⟨hs, hw, h⟩ | ⟨hs, h⟩ <;> rw [h, hs]
  · rw [State.csrWrite_el, hw]
    rfl
  · rw [State.csrRead_el, State.driveLane, State.regRead_driveNarrow, hw]
    rfl
  · rfl

/-- A lane's clock cycle leaves the divisor its narrow write leaves, if it writes (R202). -/
theorem State.issueLane_divisor :
    (s.issueLane k adr sel we datW).el.divisor =
      if sel.getLsbD k && we then (s.regWrite (narrowAddr s.cfg adr k) (lane datW k)).el.divisor else s.el.divisor := by
  rcases s.issueLane_cases k adr sel we datW with ⟨hs, hw, h⟩ | ⟨hs, hw, h⟩ | ⟨hs, h⟩ <;> rw [h, hs]
  · rw [State.csrWrite_el, State.driveLane, State.regWrite_driveNarrow, hw]
    rfl
  · rw [State.csrRead_el, hw]
    rfl
  · rfl

end

/-! What the Bridge's clock cycle leaves of its own elements and of the Register File's, by R192's signals. -/

/-- `active` of R192, for a beat of the Bridge. -/
def State.issues (s : State) (beat : Bool) : Bool := beat && !s.el.brAck && decide (s.el.brCnt.toNat ≤ 3)

section
variable (s : State) (beat : Bool) (b : Request)

/-- In an active clock cycle the counted lane is issued, and the one before it collected (R194 to R197). -/
theorem State.brPerform_of_issues (h : s.issues beat = true) :
    s.brPerform beat b =
      ((s.withAssembly (s.assembledAt s.el.brCnt.toNat) { ack := false, datR := s.el.brDat }).issueLane (s.el.brCnt.toNat % 4)
        b.adr b.sel b.we b.datW).setBrCnt (s.el.brCnt + 1) := by
  simp only [State.issues, Bool.and_eq_true, Bool.not_eq_true', decide_eq_true_eq] at h
  obtain ⟨⟨rfl, ack⟩, count⟩ := h
  have lane : s.el.brCnt.toNat < 4 := by omega
  have same : BitVec.ofNat 3 s.el.brCnt.toNat = s.el.brCnt := by simp
  rw [State.brPerform_lane lane ack same.symm b, Nat.mod_eq_of_lt lane, BitVec.ofNat_add, same]
  rfl

/-- In the others there is no narrow strobe; a beat that is not acknowledged collects the last lane (R193, R198, R199). -/
theorem State.brPerform_el_of_not_issues (h : s.issues beat = false) :
    (s.brPerform beat b).el =
      { s.el with
        brDat := if beat && !s.el.brAck then setLane s.el.brDat 3 s.el.csrRdata else s.el.brDat
        brAck := beat && !s.el.brAck
        brCnt := 0
        csrRdata := 0 } := by
  rcases s.brPerform_cases beat b with ⟨hb, hs⟩ | ⟨hb, ha, hs⟩ | ⟨hb, ha, hc, _⟩ | ⟨hb, ha, hc, _⟩ | ⟨hb, ha, hc, _⟩ |
    ⟨hb, ha, hc, _⟩ | ⟨hb, ha, _, hs⟩
  · rw [hs, State.brIdle_el, hb]
    rfl
  · rw [hs, State.brAckCycle_el, hb, ha]
    rfl
  · simp [State.issues, hb, ha, hc] at h
  · simp [State.issues, hb, ha, hc] at h
  · simp [State.issues, hb, ha, hc] at h
  · simp [State.issues, hb, ha, hc] at h
  · rw [hs, State.brCollect_el, hb, ha]
    rfl

/-- The counter counts the lanes issued (R192). -/
theorem State.brPerform_brCnt : (s.brPerform beat b).el.brCnt = if s.issues beat then s.el.brCnt + 1 else 0 := by
  cases h : s.issues beat with
  | true => rw [s.brPerform_of_issues beat b h]; rfl
  | false => rw [s.brPerform_el_of_not_issues beat b h]; rfl

/-- The acknowledge is scheduled after the lanes (R198). -/
theorem State.brPerform_brAck :
    (s.brPerform beat b).el.brAck = (beat && !s.el.brAck && decide (4 ≤ s.el.brCnt.toNat)) := by
  cases h : s.issues beat with
  | true =>
    rw [s.brPerform_of_issues beat b h]
    simp only [State.issues, Bool.and_eq_true, Bool.not_eq_true', decide_eq_true_eq] at h
    obtain ⟨⟨_, ack⟩, count⟩ := h
    rw [decide_eq_false (by omega), Bool.and_false]
    exact (State.issueLane_brAck _ _ _ _ _ _).trans ack
  | false =>
    rw [s.brPerform_el_of_not_issues beat b h]
    rw [State.issues, Bool.and_eq_false_iff, decide_eq_false_iff_not] at h
    rcases h with h | h
    · simp only [h, Bool.false_and]
    · rw [decide_eq_true (by omega), Bool.and_true]

/-- A beat collects the lane before the one it counts (R195 to R198). -/
theorem State.brPerform_brDat :
    (s.brPerform beat b).el.brDat =
      if beat && !s.el.brAck then s.assembledAt (min s.el.brCnt.toNat 4) else s.el.brDat := by
  cases h : s.issues beat with
  | true =>
    rw [s.brPerform_of_issues beat b h]
    simp only [State.issues, Bool.and_eq_true (_ && _), decide_eq_true_eq] at h
    obtain ⟨active, count⟩ := h
    rw [active, if_pos rfl, Nat.min_eq_left (by omega)]
    exact State.issueLane_brDat _ _ _ _ _ _
  | false =>
    rw [s.brPerform_el_of_not_issues beat b h]
    rw [State.issues, Bool.and_eq_false_iff, decide_eq_false_iff_not] at h
    rcases h with h | h
    · simp only [h, Bool.false_eq_true, if_false]
    · rw [Nat.min_eq_right (by omega)]
      rfl

/-- `csr_rdata` registers the byte that the clock cycle's narrow read yields (R201 to R203). -/
theorem State.brPerform_csrRdata :
    (s.brPerform beat b).el.csrRdata =
      if s.issues beat && b.sel.getLsbD (s.el.brCnt.toNat % 4) && !b.we then
        (s.regRead (narrowAddr s.cfg b.adr (s.el.brCnt.toNat % 4))).wires.regV
      else 0 := by
  cases h : s.issues beat with
  | true =>
    rw [s.brPerform_of_issues beat b h, Bool.true_and]
    exact (State.issueLane_registers _ _ _ _ _ _).trans (by rw [State.regRead_withAssembly]; rfl)
  | false =>
    rw [s.brPerform_el_of_not_issues beat b h]
    rfl

/-- The divisor is what the clock cycle's narrow write leaves (R202, R208). -/
theorem State.brPerform_divisor :
    (s.brPerform beat b).el.divisor =
      if s.issues beat && b.sel.getLsbD (s.el.brCnt.toNat % 4) && b.we then
        (s.regWrite (narrowAddr s.cfg b.adr (s.el.brCnt.toNat % 4)) (lane b.datW (s.el.brCnt.toNat % 4))).el.divisor
      else s.el.divisor := by
  cases h : s.issues beat with
  | true =>
    rw [s.brPerform_of_issues beat b h, Bool.true_and]
    exact (State.issueLane_divisor _ _ _ _ _ _).trans (by rw [State.regWrite_withAssembly]; rfl)
  | false =>
    rw [s.brPerform_el_of_not_issues beat b h]
    rfl

end

/-! The combinational signals of R303 (R192, R245, R262, R266) are the model's by definition, but those made of the narrow
address: the flat text has a number there, the model a vector that holds it in a legal configuration. -/

/-- The combinational signals of R303 in the clock cycle that begins in state `s`. -/
def State.flat (s : State) : FlatSignals := flatSignals s.cfg s.tick s.el s.nextRow

section
variable {s : State} (hl : s.cfg.legal = true)
include hl

theorem State.flat_naddr : s.flat.naddr = s.load.narrowNow.toNat :=
  (narrowAddr_toNat (c := s.cfg) hl s.load.downstream.adr (Nat.mod_lt _ (by decide))).symm

theorem State.flat_rxPop : s.flat.rxPop = s.load.rxPopNow := by
  show (s.load.readStrobe && decide (s.flat.naddr = s.cfg.offRxData) && s.rxReadReady) = _
  rw [State.flat_naddr hl]
  rfl

theorem State.flat_txPush : s.flat.txPush = s.load.txPushNow := by
  show (s.load.writeStrobe && decide (s.flat.naddr = s.cfg.offTxData) && s.txWriteReady) = _
  rw [State.flat_naddr hl]
  rfl

/-- The byte `v` is the one the register read yields, strobed or not (R201). -/
theorem State.flat_v : s.flat.v = (s.load.regRead s.load.narrowNow).wires.regV := by
  rw [State.regRead_regV (s := s.load) hl, ← State.flat_naddr hl]
  have info : rxInfoByte (rxEntryFlags s.load.rxRData) s.load.rxReadReady =
      if s.rxReadReady then 0#4 ++ ((s.el.rxFifo.headD (Free.rxEntry s.tick)).extractLsb' 8 3 ++ 1#1)
      else 0#4 ++ ((Free.rxEntry s.tick).extractLsb' 8 3 ++ 0#1) := by
    rw [State.rxRData, show s.load.rxReadReady = s.rxReadReady from rfl]
    cases s.rxReadReady <;> rfl
  have data : rxEntryData s.load.rxRData =
      if s.rxReadReady then (s.el.rxFifo.headD (Free.rxEntry s.tick)).extractLsb' 0 8
      else (Free.rxEntry s.tick).extractLsb' 0 8 := by
    rw [State.rxRData, show s.load.rxReadReady = s.rxReadReady from rfl]
    cases s.rxReadReady <;> rfl
  rw [info, data]
  rfl

end

/-! The record, element by element. -/

/-- The rule of R226 as R303 writes it: first the reveal, then the new ones. -/
theorem visAfter_eq_flatVis (mode : FifoMode) (v : Vis) (t k : Nat) (doWrite doRead : Bool) :
    visAfter mode v t k doWrite doRead = flatVis mode v (4 * t + k) (4 * t + k + 1) doWrite doRead := by
  cases mode with
  | exactFlags => rfl
  | laggingFlags =>
    have revealedW := choose_le (4 * t + k) v.dueW v.hidW
    have revealedR := choose_le (4 * t + k + 1) v.dueR v.hidR
    simp only [visAfter, flatVis, Vis.bump, Vis.reveal, Nat.sub_add_comm revealedW, Nat.sub_add_comm revealedR, Bool.toNat,
      Bool.cond_eq_ite]

/-- Two records with the same elements are one. -/
theorem Elements.eq_of_elements {e f : Elements} (grant : e.grant = f.grant) (mcState : e.mcState = f.mcState)
    (mcAdr : e.mcAdr = f.mcAdr) (mem : e.mem = f.mem) (brDat : e.brDat = f.brDat) (brAck : e.brAck = f.brAck)
    (brCnt : e.brCnt = f.brCnt) (csrRdata : e.csrRdata = f.csrRdata) (divisor : e.divisor = f.divisor)
    (rxFifo : e.rxFifo = f.rxFifo) (txFifo : e.txFifo = f.txFifo) (rxVis : e.rxVis = f.rxVis) (txVis : e.txVis = f.txVis) :
    e = f := by
  cases e
  cases f
  simp_all

/-- The controller is in CYCLE after a beat and in IDLE after any other clock cycle (R160). -/
theorem State.mcPerform_mcState (s : State) (beat : Bool) (b : Request) :
    (s.mcPerform beat b).el.mcState = if beat then .cycle else .idle := by
  rcases s.mcPerform_cases beat b with ⟨hs, hb, h⟩ | ⟨_, hb, h⟩ | ⟨_, hb, h⟩ | ⟨_, hb, h⟩ <;> rw [h, hb]
  · exact hs
  · rfl
  · rfl
  · rfl

/-- The latched address: latched from IDLE, advanced in CYCLE, kept without a beat (R161 to R165). -/
theorem State.mcPerform_mcAdr (s : State) (beat : Bool) (b : Request) :
    (s.mcPerform beat b).el.mcAdr =
      match s.el.mcState, beat with
      | .idle, true => memIndex s.cfg b.adr
      | .cycle, true => flatAdvance s.cfg s.el.mcAdr b.cti b.bte
      | _, false => s.el.mcAdr := by
  rcases s.mcPerform_cases beat b with ⟨hs, hb, h⟩ | ⟨hs, hb, h⟩ | ⟨hs, hb, h⟩ | ⟨hs, hb, h⟩ <;> rw [h, hs, hb]
  · rfl
  · rfl
  · rfl
  · rw [State.mcBeat_el, State.advance_mcAdr]

/-- The lane collected is the one before the counter's, read as at most 4 (R195 to R198). -/
theorem State.assembledAt_min (s : State) :
    s.assembledAt (min s.el.brCnt.toNat 4) =
      if s.el.brCnt ≠ 0#3 then setLane s.el.brDat (min s.el.brCnt.toNat 4 - 1) s.el.csrRdata else s.el.brDat := by
  by_cases h : s.el.brCnt = 0#3
  · rw [h, if_neg (not_not.mpr rfl)]
    rfl
  · have count : s.el.brCnt.toNat ≠ 0 := fun h0 => h (BitVec.eq_of_toNat_eq h0)
    obtain ⟨k, hk⟩ : ∃ k, min s.el.brCnt.toNat 4 = k + 1 := Nat.exists_eq_succ_of_ne_zero (by omega)
    rw [if_pos h, hk]
    rfl

/-- The record that the owners' operations leave is the flat step function's (R303). -/
theorem State.nextElements_eq_flatNext {s : State} (hl : s.cfg.legal = true) :
    s.load.nextElements = flatNext s.cfg s.tick s.el s.nextRow := by
  refine Elements.eq_of_elements ?grant ?mcState ?mcAdr ?mem ?brDat ?brAck ?brCnt ?csrRdata ?divisor ?rxFifo ?txFifo
    ?rxVis ?txVis
  case grant =>
    refine s.load.arbPerform_grantAfter.trans ?_
    show grantAfter s.el.grant s.flat.b.cyc s.flat.otherCyc =
      if !s.flat.b.cyc && s.flat.otherCyc then s.el.grant.other else s.el.grant
    cases s.flat.b.cyc <;> rfl
  case mcState => exact s.load.mcPerform_mcState _ _
  case mcAdr => exact (s.load.mcPerform_mcAdr _ _).trans rfl
  case mem =>
    refine (s.load.mcPerform_mem _ _).trans (if_congr ?_ rfl rfl)
    simp only [Bool.and_eq_true, decide_eq_true_eq, and_assoc]
    rfl
  case brDat =>
    refine (s.load.brPerform_brDat _ _).trans ?_
    rw [State.assembledAt_min, ← ite_and]
    refine if_congr ?_ rfl rfl
    rw [Bool.and_eq_true (_ && _), decide_eq_true_eq]
    rfl
  case brAck => exact s.load.brPerform_brAck _ _
  case brCnt => exact s.load.brPerform_brCnt _ _
  case csrRdata =>
    refine (s.load.brPerform_csrRdata _ _).trans ?_
    show _ = if s.flat.rStb then s.flat.v else 0
    rw [State.flat_v hl]
    rfl
  case divisor =>
    refine (s.load.brPerform_divisor _ _).trans ?_
    rw [State.regWrite_divisor (s := s.load) hl, ← ite_and]
    show _ = if s.flat.wStb ∧ s.cfg.offCtrl ≤ s.flat.naddr ∧ s.flat.naddr < s.cfg.offCtrl + s.cfg.ctrlBytes then
      BitVec.ofNat 32 ((setLane s.el.divisor (s.flat.naddr - s.cfg.offCtrl) s.flat.wByte).toNat % 2 ^ s.cfg.divisorWidth)
      else s.el.divisor
    rw [State.flat_naddr hl]
    rfl
  case rxFifo =>
    show _ = (if s.flat.rxPop then s.el.rxFifo.tail else s.el.rxFifo) ++ _
    rw [State.flat_rxPop hl]
    rfl
  case txFifo =>
    show _ = _ ++ (if s.flat.txPush then [s.flat.wByte] else [])
    rw [State.flat_txPush hl]
    rfl
  case rxVis =>
    show _ = flatVis s.cfg.fifoMode s.el.rxVis (4 * s.tick) (4 * s.tick + 1) s.flat.rxPush s.flat.rxPop
    rw [State.flat_rxPop hl]
    exact visAfter_eq_flatVis s.cfg.fifoMode s.el.rxVis s.tick 0 _ _
  case txVis =>
    show _ = flatVis s.cfg.fifoMode s.el.txVis (4 * s.tick + 2) (4 * s.tick + 3) s.flat.txPush s.flat.txPull
    rw [State.flat_txPush hl]
    exact visAfter_eq_flatVis s.cfg.fifoMode s.el.txVis s.tick 2 _ _

/-! The outputs. -/

/-- The Decoder's operation drives no output: the port's response follows it (R282). -/
theorem State.decPerform_out (s : State) (b : Request) : (s.decPerform b).out = s.out := by
  have slaves (mcBeat brBeat : Bool) : ((s.mcPerform mcBeat b).brPerform brBeat b).out = s.out :=
    ((s.mcPerform mcBeat b).brPerform_signals brBeat b).1.trans (s.mcPerform_signals mcBeat b).1
  rcases s.decPerform_cases b with ⟨_, h⟩ | ⟨_, _, h⟩ | ⟨_, _, h⟩ <;> rw [h]
  · exact slaves _ _
  · exact slaves _ _
  · rw [State.routeMiss_eq]
    exact slaves _ _

/-- The ports' operations drive the ports' responses only: not the `divisor` output (R243). -/
theorem State.served_divisor (s : State) : s.served.out.divisor = s.out.divisor := by
  rw [State.served_eq, (State.arbPerform_signals _ _ _).1, State.respond, State.driveMaster_divisor, State.driveMaster_divisor,
    State.decPerform_out, State.wait, State.driveMaster_divisor]

/-- The receive side leaves the transmit FIFO, and all outputs but `rx_ack` (R230, R237, R238). -/
theorem exec_decodeRX_frame {s t : State} {rdy wRdy : Bool} {data : Byte} {ovf ferr perr : Bool}
    (h : exec (decodeRX rdy wRdy data ovf ferr perr) s = .next t) :
    t.el.txFifo = s.el.txFifo ∧ t.tick = s.tick ∧ t.out.divisor = s.out.divisor := by
  cases rdy <;> cases wRdy <;> cases h <;> exact ⟨rfl, rfl, rfl⟩

/-- The transmit side shows what the transmit FIFO shows, whether it pulls or not (R231, R240, R241, R246). -/
theorem exec_decodeTX_data {s t : State} {rdy rRdy : Bool} (h : exec (decodeTX rdy rRdy) s = .next t) :
    t.out.txData = s.txRDataIf rRdy ∧ t.out.divisor = s.out.divisor := by
  cases rdy <;> cases rRdy <;> cases h <;> exact ⟨rfl, rfl⟩

/-- A byte pushed in the clock cycle stands behind those that the FIFO shows (R224, R241). -/
theorem headD_append_of_ready {mode : FifoMode} {l : List TxEntry} {v : Vis} (e : List TxEntry) (d : TxEntry)
    (h : readReady mode l.length v = true) : (l ++ e).headD d = l.headD d := by
  obtain ⟨_, _, rfl⟩ := List.exists_cons_of_ne_nil (readReady_ne_nil h)
  rfl

/-- A step shows the divisor of its start, and the transmit FIFO's oldest byte while it is ready to read (R240, R241, R243). -/
theorem step_txData_divisor {s t : State} (h : step s = .next t) :
    t.out.txData = (if s.txReadReady then s.el.txFifo.headD (Free.txEntry s.tick) else Free.txEntry s.tick) ∧
      t.out.divisor = s.el.divisor := by
  have hl : s.load.cfg.legal = true := (step_inversion h).1
  obtain ⟨c, d, hc, hd, rfl⟩ := step_after_ports h
  obtain ⟨rxFifo, rxTick, rxDivisor⟩ := exec_decodeRX_frame hc
  obtain ⟨txData, txDivisor⟩ := exec_decodeTX_data hd
  obtain ⟨_, _, _, tick⟩ := s.load.served_context
  refine ⟨txData.trans ?_, (txDivisor.trans rxDivisor).trans s.load.served_divisor⟩
  rw [State.txRDataIf, rxFifo, rxTick, tick, State.served_el_fifos hl]
  exact if_ctx_congr Iff.rfl (fun ready => headD_append_of_ready _ _ ready) fun _ => rfl

/-- R302's response lines in state `s` for the downstream request `b`: `ack`, `err`, `dat_r`. -/
def State.flatResponse (s : State) (b : Request) : Response where
  ack := (selMem s.cfg b.adr && strobed b && decide (s.el.mcState = .cycle)) || (selCsr s.cfg b.adr && strobed b && s.el.brAck)
  err := strobed b && !selMem s.cfg b.adr && !selCsr s.cfg b.adr
  datR := if selMem s.cfg b.adr then s.el.mem.readWord s.el.mcAdr.toNat else if selCsr s.cfg b.adr then s.el.brDat else 0

/-- The response lines are those that the Decoder drives, since no address selects both slaves (R267). -/
theorem State.decPerform_eq_flatResponse {s : State} (hl : s.cfg.legal = true) (b : Request) :
    (s.decPerform b).wires.d = s.flatResponse b := by
  rw [State.decPerform_response, State.flatResponse]
  cases hm : selMem s.cfg b.adr with
  | true => simp [selCsr_of_selMem hl hm]
  | false => cases selCsr s.cfg b.adr <;> simp

/-- R302 gates `ack` and `err` with the grant. -/
theorem flatOut_master (s : State) (m : Master) :
    (flatOut s.cfg s.tick s.el s.nextRow).master m =
      { ack := (s.flatResponse s.load.downstream).ack && decide (s.el.grant = m)
        err := (s.flatResponse s.load.downstream).err && decide (s.el.grant = m)
        datR := (s.flatResponse s.load.downstream).datR } := by
  cases m <;> rfl

/-- Two output records with the same outputs are one. -/
theorem Outputs.eq_of_outputs {o p : Outputs} (master : ∀ m, o.master m = p.master m) (rxAck : o.rxAck = p.rxAck)
    (txData : o.txData = p.txData) (txAck : o.txAck = p.txAck) (divisor : o.divisor = p.divisor) : o = p := by
  have m0 := master .m0
  have m1 := master .m1
  cases o
  cases p
  simp_all [Outputs.master]

theorem Master.eq_other_of_ne {m n : Master} (h : m ≠ n) : n = m.other := by
  revert h
  cases m <;> cases n <;> decide

/-- A step shows the outputs of R302. -/
theorem step_out {s t : State} (h : step s = .next t) : t.out = flatOut s.cfg s.tick s.el s.nextRow := by
  have hl : s.cfg.legal = true := (step_inversion h).1
  obtain ⟨w, cfg, el, response, otherResponse⟩ := step_responses h
  obtain ⟨_, _, rxAck, txAck, _⟩ := step_transceiver h
  obtain ⟨txData, divisor⟩ := step_txData_divisor h
  have lines : (w.decPerform (s.requestAt s.el.grant 0)).wires.d = s.flatResponse s.load.downstream := by
    rw [State.decPerform_eq_flatResponse (cfg ▸ hl), State.flatResponse, cfg, el, ← State.load_downstream]
    rfl
  rw [lines] at response otherResponse
  refine Outputs.eq_of_outputs (fun m => ?_) rxAck txData txAck divisor
  rw [flatOut_master]
  by_cases granted : s.el.grant = m
  · subst granted
    simp [response]
  · obtain rfl := Master.eq_other_of_ne granted
    simp [otherResponse, granted]

/-- Settles O9: the record by its owners' operations, element for element, and the outputs by the Decoder's response and the
transceiver's sides. -/
theorem stepIsTheFlatStepFunction : Obligations.StepIsTheFlatStepFunction := by
  intro s hl
  obtain ⟨t, hstep, el, cfg, tick, _⟩ := step_next hl
  obtain ⟨inp, script, _⟩ := step_transceiver hstep
  exact ⟨t, hstep, el.trans (State.nextElements_eq_flatNext hl), step_out hstep, cfg, script, inp, tick⟩

end Sys2Proof.Machine

/-! What follows of every clock cycle of the whole fabric (46_top.md R304, R305): rest without requests, runs of any length, and
the rise of the flags in lagging mode (43_uart_fifo.md R226). -/

namespace Sys2Proof.Machine

/-! A clock cycle without requests (R305). -/

/-- Without a beat the slaves come to rest; the transceiver's sides go on. -/
theorem State.nextElements_no_beat {s : State} (h : strobed s.downstream = false) :
    s.nextElements =
      { s.nextElements with
        mcState := .idle, mcAdr := s.el.mcAdr, mem := s.el.mem
        brDat := s.el.brDat, brAck := false, brCnt := 0, csrRdata := 0, divisor := s.el.divisor } := by
  have mcBeat : s.mcBeatNow = false := by rw [State.mcBeatNow, h, Bool.false_and]
  have brBeat : s.brBeatNow = false := by rw [State.brBeatNow, h, Bool.false_and]
  rw [State.nextElements, mcBeat, brBeat, State.mcPerform_no_beat_el, State.brPerform_no_beat, State.brIdle_el]
  rfl

/-- Settles O59: no master's `cyc` means no beat, and the Arbiter parks. -/
theorem idleClockCycleBringsRest : Obligations.IdleClockCycleBringsRest := by
  intro s t hstep idle0 idle1
  obtain ⟨_, el, _⟩ := step_inversion hstep
  rw [← State.load_request] at idle0 idle1
  have idle (m : Master) : (portRequest s.load.inp m).cyc = false := by
    cases m
    · exact idle0
    · exact idle1
  have rest := State.nextElements_no_beat (s := s.load) (by rw [strobed, State.downstream, idle, Bool.false_and])
  have grant : s.load.nextElements.grant = s.el.grant := by
    refine s.load.arbPerform_grantAfter.trans ?_
    rw [idle, idle]
    rfl
  rw [State.quiescent, el, rest]
  exact ⟨⟨rfl, rfl, rfl, rfl, idle0, idle1⟩, grant, rfl, rfl, rfl, rfl⟩

/-! Runs of any length (R304). -/

/-- A legal fabric runs on, with its configuration, one clock cycle after another. -/
theorem runFor_of_legal (n : Nat) {s : State} (hl : s.cfg.legal = true) :
    ∃ t, runFor n s = .next t ∧ t.cfg = s.cfg ∧ t.tick = s.tick + n := by
  induction n generalizing s with
  | zero => exact ⟨s, rfl, rfl, rfl⟩
  | succ n ih =>
    obtain ⟨u, hstep, _, cfg, tick, _⟩ := step_next hl
    obtain ⟨t, hrun, cfg', tick'⟩ := ih (cfg ▸ hl)
    exact ⟨t, (runFor_succ_of_step hstep).trans hrun, cfg'.trans cfg, by omega⟩

/-! A FIFO by its name: what a step does to its count and its counters (R221, R226, R245). -/

/-- The number of entries. -/
def State.count (s : State) : FifoId → Nat
  | .rx => s.el.rxFifo.length
  | .tx => s.el.txFifo.length

/-- The FIFO's depth (R6). -/
def State.depth (s : State) : FifoId → Nat
  | .rx => s.cfg.rxDepth
  | .tx => s.cfg.txDepth

/-- The next clock cycle pushes an entry (R245). -/
def State.pushes (s : State) : FifoId → Bool
  | .rx => s.load.rxPushNow
  | .tx => s.load.txPushNow

/-- The next clock cycle pops an entry (R245). -/
def State.pops (s : State) : FifoId → Bool
  | .rx => s.load.rxPopNow
  | .tx => s.load.txPullNow

/-- The entries pushed in `n` clock cycles, counted. -/
def State.pushed (s : State) (f : FifoId) (n : Nat) : Nat :=
  match f with
  | .rx => (rxTaken n s).length
  | .tx => (txWritten n s).length

/-- The entries popped in `n` clock cycles, counted. -/
def State.popped (s : State) (f : FifoId) (n : Nat) : Nat :=
  match f with
  | .rx => (rxRead n s).length
  | .tx => (txSent n s).length

/-- `w_rdy` (R222). -/
def State.writeReadyOf (s : State) (f : FifoId) : Bool := writeReady s.cfg.fifoMode (s.depth f) (s.count f) (s.vis f)

/-- `r_rdy` (R223). -/
def State.readReadyOf (s : State) (f : FifoId) : Bool := readReady s.cfg.fifoMode (s.count f) (s.vis f)

/-- One clock cycle moves an entry or none. -/
theorem length_if_singleton {α : Type} (b : Bool) (e : α) : (if b then [e] else []).length = b.toNat := by
  cases b <;> rfl

section
variable {s : State} {f : FifoId}

theorem State.writeReadyOf_of_pushes (h : s.pushes f = true) : s.writeReadyOf f = true := by
  cases f <;> exact (Bool.and_eq_true_iff.mp h).2

theorem State.readReadyOf_of_pops (h : s.pops f = true) : s.readReadyOf f = true := by
  cases f <;> exact (Bool.and_eq_true_iff.mp h).2

/-- A pop takes an entry that is there (R223). -/
theorem State.pops_le_count : (s.pops f).toNat ≤ s.count f := by
  cases h : s.pops f with
  | false => exact Nat.zero_le _
  | true => exact readReady_pos (State.readReadyOf_of_pops h)

theorem State.Inv.vis_ok (h : s.Inv) : (s.vis f).ok s.cfg.fifoMode (s.depth f) (s.count f) := by
  cases f
  · exact h.rxVis
  · exact h.txVis

variable {t : State} (h : step s = .next t)
include h

theorem step_count : t.count f = s.count f - (s.pops f).toNat + (s.pushes f).toNat := by
  obtain ⟨_, el, _⟩ := step_inversion h
  cases f <;> rw [State.count, el] <;> exact length_fifoAfter _ _ _ _

theorem step_vis : (s.vis f).after s.cfg.fifoMode (s.pushes f) (s.pops f) (t.vis f) := by
  obtain ⟨_, el, _⟩ := step_inversion h
  cases f <;> rw [State.vis, State.vis, el] <;> exact visAfter_after _ _ _ _ _ _

theorem step_depth : t.depth f = s.depth f := by
  obtain ⟨_, _, cfg, _⟩ := step_inversion h
  cases f <;> rw [State.depth, cfg] <;> rfl

theorem pushed_succ (n : Nat) : s.pushed f (n + 1) = (s.pushes f).toNat + t.pushed f n := by
  cases f with
  | rx =>
    obtain ⟨_, _, rxAck, _⟩ := step_transceiver h
    simp only [State.pushed, rxTaken, h, rxAck, List.length_append, length_if_singleton]
    rfl
  | tx =>
    simp only [State.pushed, txWritten, h, List.length_append]
    exact congrArg (· + _) (length_if_singleton s.load.txPushNow _)

theorem popped_succ (n : Nat) : s.popped f (n + 1) = (s.pops f).toNat + t.popped f n := by
  cases f with
  | rx =>
    have one : s.rxPopped.length = (s.pops .rx).toNat := by
      have there := State.pops_le_count (s := s) (f := .rx)
      show (if s.pops .rx then s.el.rxFifo.take 1 else []).length = _
      cases hp : s.pops .rx with
      | false => rfl
      | true =>
        rw [hp] at there
        exact List.length_take_of_le there
    simp only [State.popped, rxRead, h, List.length_append, one]
  | tx =>
    obtain ⟨_, _, _, txAck, _⟩ := step_transceiver h
    simp only [State.popped, txSent, h, txAck, List.length_append, length_if_singleton]
    rfl

end

/-! Fairness (R226, R372). -/

/-- One counter's clock cycle from `hid` with the time left `due`: some of what is hidden is revealed, and `new` are added; where
something is hidden and nothing revealed, the time left goes down (R226, log entry 7). -/
def RevealStep (hid due new hid' due' : Nat) : Prop :=
  ∃ rev ≤ hid, hid' = hid - rev + new ∧ (0 < hid → rev = 0 → due' < due)

/-- A counter that is revealed so in every clock cycle comes down to `a` and what was added since. By induction on what is hidden
beyond `a`, and then on the time left: each clock cycle reveals some of it or shortens the time. -/
theorem eventually_visible {hid due new : State → Nat} {total : State → Nat → Nat} (zero : ∀ s, total s 0 = 0)
    (succ : ∀ s t n, step s = .next t → total s (n + 1) = new s + total t n)
    (cycle : ∀ s t, s.cfg.fifoMode = .laggingFlags → step s = .next t → RevealStep (hid s) (due s) (new s) (hid t) (due t))
    (s : State) (a : Nat) (hl : s.cfg.legal = true) (lagging : s.cfg.fifoMode = .laggingFlags) :
    ∃ n t, runFor n s = .next t ∧ hid t ≤ a + total s n := by
  by_cases visible : hid s ≤ a
  · exact ⟨0, s, rfl, by rw [zero]; exact visible⟩
  · obtain ⟨u, hstep, _, cfg, _⟩ := step_next hl
    obtain ⟨rev, within, left, waits⟩ := cycle s u lagging hstep
    have nearer : hid u - (a + new s) < hid s - a ∨ hid u - (a + new s) = hid s - a ∧ due u < due s := by omega
    obtain ⟨n, t, hrun, shown⟩ := eventually_visible zero succ cycle u (a + new s) (cfg ▸ hl) (cfg ▸ lagging)
    exact ⟨n + 1, t, (runFor_succ_of_step hstep).trans hrun, by rw [succ s u n hstep]; omega⟩
termination_by (hid s - a, due s)
decreasing_by exact Prod.lex_def.mpr nearer

/-- A flag rises if, while it waits for a reveal, each clock cycle raises it or shortens the time left: by induction on that
time. -/
theorem eventually_ready {ready waiting : State → Prop} {due : State → Nat}
    (cycle : ∀ s t, s.Inv → waiting s → ¬ ready s → step s = .next t → ready t ∨ waiting t ∧ due t < due s)
    (s : State) (inv : s.Inv) (waits : waiting s) : ∃ n t, runFor n s = .next t ∧ ready t := by
  by_cases now : ready s
  · exact ⟨0, s, rfl, now⟩
  · obtain ⟨u, hstep, _⟩ := step_next inv.legal
    rcases cycle s u inv waits now hstep with risen | ⟨waits', sooner⟩
    · exact ⟨1, u, runFor_one_of_step hstep, risen⟩
    · obtain ⟨n, t, hrun, risen⟩ := eventually_ready cycle u (stepKeepsTheInvariants s u inv hstep) waits'
      exact ⟨n + 1, t, (runFor_succ_of_step hstep).trans hrun, risen⟩
termination_by due s

section
variable {s t : State} {f : FifoId} (lagging : s.cfg.fifoMode = .laggingFlags) (h : step s = .next t)
include lagging h

theorem step_reveals_entries :
    RevealStep (s.vis f).hidW (s.vis f).dueW (s.pushes f).toNat (t.vis f).hidW (t.vis f).dueW := by
  have after := step_vis (f := f) h
  rw [lagging] at after
  obtain ⟨rev, _, within, _, _, _, left, _, waits, _⟩ := after
  exact ⟨rev, within, left, fun hidden none => Nat.lt_of_succ_le (waits hidden none).le⟩

theorem step_reveals_slots :
    RevealStep (s.vis f).hidR (s.vis f).dueR (s.pops f).toNat (t.vis f).hidR (t.vis f).dueR := by
  have after := step_vis (f := f) h
  rw [lagging] at after
  obtain ⟨_, rev, _, within, _, _, _, left, _, waits⟩ := after
  exact ⟨rev, within, left, fun hidden none => Nat.lt_of_succ_le (waits hidden none).le⟩

end

section
variable {s : State} (inv : s.Inv) (f : FifoId)
include inv

/-- The entries hidden now become visible: those hidden later were pushed since. -/
theorem hidden_entries_become_visible : ∃ n t, runFor n s = .next t ∧ (t.vis f).hidW ≤ s.pushed f n := by
  have ok := inv.vis_ok (f := f)
  cases mode : s.cfg.fifoMode with
  | exactFlags =>
    rw [mode] at ok
    exact ⟨0, s, rfl, ok.1.trans_le (Nat.zero_le _)⟩
  | laggingFlags =>
    obtain ⟨n, t, hrun, shown⟩ := eventually_visible (hid := fun s => (s.vis f).hidW) (due := fun s => (s.vis f).dueW)
      (total := fun s n => s.pushed f n) (fun s => by cases f <;> rfl) (fun s t n hstep => pushed_succ hstep n)
      (fun s t lagging hstep => step_reveals_entries lagging hstep) s 0 inv.legal mode
    exact ⟨n, t, hrun, shown.trans_eq (Nat.zero_add _)⟩

/-- The slots hidden now become visible: those hidden later were freed since. -/
theorem hidden_slots_become_visible : ∃ n t, runFor n s = .next t ∧ (t.vis f).hidR ≤ s.popped f n := by
  have ok := inv.vis_ok (f := f)
  cases mode : s.cfg.fifoMode with
  | exactFlags =>
    rw [mode] at ok
    exact ⟨0, s, rfl, ok.2.trans_le (Nat.zero_le _)⟩
  | laggingFlags =>
    obtain ⟨n, t, hrun, shown⟩ := eventually_visible (hid := fun s => (s.vis f).hidR) (due := fun s => (s.vis f).dueR)
      (total := fun s n => s.popped f n) (fun s => by cases f <;> rfl) (fun s t n hstep => popped_succ hstep n)
      (fun s t lagging hstep => step_reveals_slots lagging hstep) s 0 inv.legal mode
    exact ⟨n, t, hrun, shown.trans_eq (Nat.zero_add _)⟩

end

/-- While a FIFO is not ready to read, all its entries are hidden and none is popped: the first reveal raises `r_rdy`. -/
theorem readReady_rises_or_waits (f : FifoId) (s t : State) (inv : s.Inv) (holds : 0 < s.count f)
    (hidden : ¬ s.readReadyOf f = true) (h : step s = .next t) :
    t.readReadyOf f = true ∨ 0 < t.count f ∧ (t.vis f).dueW < (s.vis f).dueW := by
  have ok := inv.vis_ok (f := f)
  have noPop : s.pops f = false := Bool.eq_false_iff.mpr fun pop => hidden (State.readReadyOf_of_pops pop)
  have count := step_count (f := f) h
  obtain ⟨_, _, cfg, _⟩ := step_inversion h
  rw [State.readReadyOf] at hidden ⊢
  rw [cfg]
  cases mode : s.cfg.fifoMode with
  | exactFlags =>
    rw [mode] at hidden
    exact absurd (readReady_exact.mpr holds) hidden
  | laggingFlags =>
    obtain ⟨rev, within, left, waits⟩ := step_reveals_entries (f := f) mode h
    rw [mode] at hidden ok
    obtain ⟨entries, _⟩ := ok
    rw [readReady_lagging] at hidden ⊢
    rw [noPop, Bool.toNat_false] at count
    omega

/-- While a FIFO is not ready to write, all its free slots are hidden and none is filled: the first reveal raises `w_rdy`. -/
theorem writeReady_rises_or_waits (f : FifoId) (s t : State) (inv : s.Inv) (room : s.count f < s.depth f)
    (hidden : ¬ s.writeReadyOf f = true) (h : step s = .next t) :
    t.writeReadyOf f = true ∨ t.count f < t.depth f ∧ (t.vis f).dueR < (s.vis f).dueR := by
  have ok := inv.vis_ok (f := f)
  have noPush : s.pushes f = false := Bool.eq_false_iff.mpr fun push => hidden (State.writeReadyOf_of_pushes push)
  have count := step_count (f := f) h
  have popped := State.pops_le_count (s := s) (f := f)
  obtain ⟨_, _, cfg, _⟩ := step_inversion h
  rw [State.writeReadyOf] at hidden ⊢
  rw [cfg, step_depth h]
  cases mode : s.cfg.fifoMode with
  | exactFlags =>
    rw [mode] at hidden
    exact absurd (writeReady_exact.mpr room) hidden
  | laggingFlags =>
    obtain ⟨rev, within, left, waits⟩ := step_reveals_slots (f := f) mode h
    rw [mode] at hidden ok
    obtain ⟨_, slots⟩ := ok
    rw [writeReady_lagging] at hidden ⊢
    rw [noPush, Bool.toNat_false] at count
    omega

/-- Settles O12: a step of a legal fabric is followed by another, each counter is revealed in time, and a flag that waits for a
reveal rises with it. -/
theorem fabricNeverHaltsAndFlagsRise : Obligations.FabricNeverHaltsAndFlagsRise := by
  refine ⟨fun n s hl => runFor_of_legal n hl, fun s inv => ?_⟩
  have read (f : FifoId) := eventually_ready (readReady_rises_or_waits f) s inv
  have write (f : FifoId) := eventually_ready (writeReady_rises_or_waits f) s inv
  exact ⟨hidden_entries_become_visible inv .rx, hidden_slots_become_visible inv .rx, hidden_entries_become_visible inv .tx,
    hidden_slots_become_visible inv .tx, fun holds => read .rx (List.length_pos_iff.mpr holds), write .rx,
    fun holds => read .tx (List.length_pos_iff.mpr holds), write .tx⟩

end Sys2Proof.Machine

/-! Clock cycle 0 (70_reset_and_hazards.md R350, R351): what the reset state shows to masters that request nothing. -/

namespace Sys2Proof.Machine

/-- Words with the same byte lanes are one word (R60). -/
theorem eq_of_lane_eq {v w : Word} (h : ∀ k < 4, lane v k = lane w k) : v = w := by
  refine BitVec.eq_of_getLsbD_eq fun i hi => ?_
  have bit (x : Word) : (lane x (i / 8)).getLsbD (i % 8) = x.getLsbD i := by
    rw [lane, BitVec.getLsbD_extractLsb', Nat.div_add_mod, decide_eq_true (Nat.mod_lt i (by decide)), Bool.true_and]
  rw [← bit v, ← bit w, h (i / 8) (by omega)]

/-- The memory after reset, word by word, is MEM_INIT (R43, R353). -/
theorem State.resetOf_readWord (c : Config) (i : Nat) : (State.resetOf c).el.mem.readWord i = c.memInit.getD i 0 := by
  obtain ⟨_, _, _, _, _, bytes⟩ := resetLeavesTheTableValues c
  refine eq_of_lane_eq fun k hk => ?_
  have word : (4 * i + k) / 4 = i := by omega
  have byte : (4 * i + k) % 4 = k := by omega
  rw [lane_readWord _ _ hk, bytes, word, byte, lane]

/-- Address 0 selects a memory whose base is 0 (R262). -/
theorem selMem_zero_of_base {c : Config} (base : c.memBase = 0) : selMem c 0 = true := by
  rw [selMem, base, Nat.zero_shiftRight, beq_iff_eq]
  exact Nat.zero_shiftRight _

/-- Without a strobe there is no response, and `dat_r` shows what the memory, where the address selects it, reads at the latched
index (R267, R302). -/
theorem State.flatResponse_of_no_beat {s : State} {b : Request} (noBeat : strobed b = false)
    (selected : selMem s.cfg b.adr = true) :
    s.flatResponse b = { ack := false, err := false, datR := s.el.mem.readWord s.el.mcAdr.toNat } := by
  simp [State.flatResponse, noBeat, selected]

/-- A port whose lines are all zero requests nothing (R93, R108). -/
theorem Bracket.request_zero : ({} : Bracket).request = {} := by decide

/-- After reset no row of inputs is placed: the request downstream is all zeros (R108, R350). -/
theorem State.resetOf_downstream (c : Config) : (State.resetOf c).load.downstream = {} := Bracket.request_zero

/-- Settles O17: the outputs of R302 at the reset record, whose latched index is 0. -/
theorem outputsOfTheFirstClockCycle : Obligations.OutputsOfTheFirstClockCycle := by
  intro c hl base
  obtain ⟨t, hstep, _⟩ := step_next (s := State.resetOf c) hl
  obtain ⟨_, _, rxAck, txAck, _⟩ := step_transceiver hstep
  obtain ⟨_, divisor⟩ := step_txData_divisor hstep
  have response : (State.resetOf c).flatResponse (State.resetOf c).load.downstream =
      { ack := false, err := false, datR := c.memInit.getD 0 0 } := by
    rw [State.resetOf_downstream, State.flatResponse_of_no_beat rfl (selMem_zero_of_base base), ← State.resetOf_readWord]
    rfl
  have master (m : Master) : t.out.master m = { ack := false, err := false, datR := c.memInit.getD 0 0 } := by
    rw [step_out hstep, flatOut_master, response, Bool.false_and]
  exact ⟨t, hstep, master .m0, master .m1, rxAck, txAck, divisor⟩

end Sys2Proof.Machine
